-- ==== Sys2Proof/Word.lean ====
section
/-! DEFINITION. The two widths of the core (00_scope.md R5): DLEN = 8 for the registers and every bus datum, ALEN = 16
for the program counter and every bus address. -/

namespace Sys2Proof

/-- DLEN: the width of A, X, Y, S and of every bus datum (R5). -/
abbrev Byte := BitVec 8

/-- ALEN: the width of PC and of a bus address (R5). -/
abbrev Addr := BitVec 16

end Sys2Proof
end

