-- ==== Sys2Proof/Config.lean ====
section
/-! DEFINITION. The parameters of R5: constants the spec gives a value, the type of the parameters a platform chooses,
and the free values (constants without a body) for what the spec leaves open. -/

namespace Sys2Proof

/-- The two reserved device windows (20_memory.md R36). -/
inductive WindowId where
  | rsv1
  | rsv2
  deriving DecidableEq, Repr

/-- One access handed to the handler of a reserved window: the window, the offset of R37, the byte. -/
inductive DeviceEvent where
  | read (window : WindowId) (offset : Nat) (value : Byte)
  | write (window : WindowId) (offset : Nat) (value : Byte)
  deriving DecidableEq, Repr

/-- A contiguous range of raw addresses, both ends included. -/
structure AddrRange where
  first : Nat
  last : Nat
  deriving DecidableEq, Repr

/-- The RAM window (R33): a base region of `size` bytes and its three images above it. -/
structure RamWindow where
  base : Nat
  size : Nat
  deriving DecidableEq, Repr

/-- The device-register window (R34): eight cells at `base`, imaged up to `windowEnd`. -/
structure DevWindow where
  base : Nat
  windowEnd : Nat
  deriving DecidableEq, Repr

/-- RSV1, "one fixed single address plus a small range" (R36), and whether a handler is attached to it. -/
structure ReservedOne where
  single : Nat
  range : AddrRange
  handled : Bool
  deriving DecidableEq, Repr

/-- RSV2, "a second contiguous range" (R36), and whether a handler is attached to it. -/
structure ReservedTwo where
  range : AddrRange
  handled : Bool
  deriving DecidableEq, Repr

/-- What the platform fixes before the first step and does not change during a run (R5, R192). A window that the
platform does not have is `none`; FLAT_BUS (R39) has none of the four. -/
structure Platform where
  ram : Option RamWindow
  dev : Option DevWindow
  rsv1 : Option ReservedOne
  rsv2 : Option ReservedTwo
  deriving DecidableEq, Repr

namespace Config

/-- STACK_PAGE: the high byte of every stack address (R5, D11). -/
def stackPage : Byte := 0x01

/-- BRK_VECTOR: where the low byte of the BRK target stands (R5, D14). -/
def brkVector : Addr := 0xFFFE

/-- RESET_VECTOR: where the low byte of the reset entry point stands (R5, D16). -/
def resetVector : Addr := 0xFFFC

/-- RESET_S: S after reset (R5, D16). -/
def resetS : Byte := 0xFD

/-- RAM_MIRRORS: the additional images of the RAM region (R5, R33). -/
def ramMirrors : Nat := 3

/-- DEV_SIZE: the size of the base device-register range (R5, R34). -/
def devSize : Nat := 8

/-- DESIGN CHOICE (unsafe, log 1): what a storage cell holds that nothing has written since launch. The spec leaves the
contents at launch open (D24, U8). -/
def launchByte : Byte := 0x00

/-- The default map of R5: RAM_BASE 0x0000, RAM_SIZE 0x0800, DEV_BASE 0x2000, DEV_WINDOW_END 0x3FFF.
DESIGN CHOICE (unsafe, log 2): without reserved windows, whose addresses the spec leaves OPEN. -/
def defaultPlatform : Platform :=
  { ram := some { base := 0x0000, size := 0x0800 }
    dev := some { base := 0x2000, windowEnd := 0x3FFF }
    rsv1 := none
    rsv2 := none }

/-- FLAT_BUS (R39): identity translation, no reserved window. -/
def flatBus : Platform :=
  { ram := none, dev := none, rsv1 := none, rsv2 := none }

/-- FREE VALUE (log 3): the byte an attached handler answers to a read at `offset` of `window` (R37, U3), given every
access that handlers have seen before it. Nothing constrains it. -/
opaque handlerRead (window : WindowId) (offset : Nat) (seen : List DeviceEvent) : Byte

/-- FREE VALUE (log 8): PC after a reset whose vector read raised BusFault, "PC unspecified" (R190). The argument
counts the conditions reported before it, so that every such reset draws a value of its own. -/
opaque resetFaultPc (draw : Nat) : Addr

end Config

end Sys2Proof
end

