-- ==== Sys2Proof/Syntax.lean ====
section
/-! DEFINITION. The whole syntax: the thirteen addressing modes with their operand bytes (30_encoding.md R52,
40_addressing.md R73 to R85), the mnemonics of the catalog (R54, R58), and `Instr`, one constructor per row of
spec/opcode_table.json. -/

namespace Sys2Proof

/-- The thirteen addressing modes (R52). -/
inductive Mode where
  | implicit
  | accumulator
  | immediate
  | relative
  | zeroPage
  | zeroPageX
  | zeroPageY
  | absolute
  | absoluteX
  | absoluteY
  | indirect
  | indirectX
  | indirectY
  deriving DecidableEq, Repr

/-- The operand bytes of a mode (R50, R52). -/
def Mode.operandBytes : Mode → Nat
  | .implicit | .accumulator => 0
  | .immediate | .relative | .zeroPage | .zeroPageX | .zeroPageY | .indirectX | .indirectY => 1
  | .absolute | .absoluteX | .absoluteY | .indirect => 2

/-- An operand that the resolver turns into a memory cell (R77 to R85), with its operand bytes assembled (R52): a
zero-page address or pointer `z`, or a 16-bit address `addr` or pointer `p`. -/
inductive MemOperand where
  | zeroPage (z : Byte)
  | zeroPageX (z : Byte)
  | zeroPageY (z : Byte)
  | absolute (addr : Addr)
  | absoluteX (addr : Addr)
  | absoluteY (addr : Addr)
  | indirect (p : Addr)
  | indirectX (z : Byte)
  | indirectY (z : Byte)
  deriving DecidableEq, Repr

/-- An operand in one of the thirteen modes (R52). `immediate v` and `relative off` carry the operand byte itself. -/
inductive Operand where
  | implicit
  | accumulator
  | immediate (v : Byte)
  | relative (off : Byte)
  | memory (m : MemOperand)
  deriving DecidableEq, Repr

/-- The addressing mode of a memory operand. -/
def MemOperand.mode : MemOperand → Mode
  | .zeroPage _ => .zeroPage
  | .zeroPageX _ => .zeroPageX
  | .zeroPageY _ => .zeroPageY
  | .absolute _ => .absolute
  | .absoluteX _ => .absoluteX
  | .absoluteY _ => .absoluteY
  | .indirect _ => .indirect
  | .indirectX _ => .indirectX
  | .indirectY _ => .indirectY

/-- The addressing mode of an operand. -/
def Operand.mode : Operand → Mode
  | .implicit => .implicit
  | .accumulator => .accumulator
  | .immediate _ => .immediate
  | .relative _ => .relative
  | .memory m => m.mode

/-- The mnemonics of the catalog: the 56 documented ones (R54), then the 21 labels of undocumented opcodes (R58,
R166). `nopUndoc` and `sbcUndoc` are the undocumented opcodes whose label is NOP or SBC (R59). -/
inductive Mnemonic where
  | adc | and | asl | bcc | bcs | beq | bit | bmi | bne | bpl
  | brk | bvc | bvs | clc | cld | cli | clv | cmp | cpx | cpy
  | dec | dex | dey | eor | inc | inx | iny | jmp | jsr | lda
  | ldx | ldy | lsr | nop | ora | pha | php | pla | plp | rol
  | ror | rti | rts | sbc | sec | sed | sei | sta | stx | sty
  | tax | tay | tsx | txa | txs | tya
  | jam | slo | nopUndoc | anc | rla | sre | alr | rra | arr | sax
  | xaa | ahx | tas | shy | shx | lax | las | dcp | axs | isc
  | sbcUndoc
  deriving DecidableEq, Repr

/-- The catalog's flag `documented`: the mnemonic's opcodes have execution semantics (R53, R58). -/
def Mnemonic.documented : Mnemonic → Bool
  | .jam | .slo | .nopUndoc | .anc | .rla | .sre | .alr | .rra | .arr | .sax | .xaa
  | .ahx | .tas | .shy | .shx | .lax | .las | .dcp | .axs | .isc | .sbcUndoc => false
  | _ => true

/-- The catalog's mnemonic, a short string (R53). -/
def Mnemonic.label : Mnemonic → String
  | .adc => "ADC"
  | .and => "AND"
  | .asl => "ASL"
  | .bcc => "BCC"
  | .bcs => "BCS"
  | .beq => "BEQ"
  | .bit => "BIT"
  | .bmi => "BMI"
  | .bne => "BNE"
  | .bpl => "BPL"
  | .brk => "BRK"
  | .bvc => "BVC"
  | .bvs => "BVS"
  | .clc => "CLC"
  | .cld => "CLD"
  | .cli => "CLI"
  | .clv => "CLV"
  | .cmp => "CMP"
  | .cpx => "CPX"
  | .cpy => "CPY"
  | .dec => "DEC"
  | .dex => "DEX"
  | .dey => "DEY"
  | .eor => "EOR"
  | .inc => "INC"
  | .inx => "INX"
  | .iny => "INY"
  | .jmp => "JMP"
  | .jsr => "JSR"
  | .lda => "LDA"
  | .ldx => "LDX"
  | .ldy => "LDY"
  | .lsr => "LSR"
  | .nop => "NOP"
  | .ora => "ORA"
  | .pha => "PHA"
  | .php => "PHP"
  | .pla => "PLA"
  | .plp => "PLP"
  | .rol => "ROL"
  | .ror => "ROR"
  | .rti => "RTI"
  | .rts => "RTS"
  | .sbc => "SBC"
  | .sec => "SEC"
  | .sed => "SED"
  | .sei => "SEI"
  | .sta => "STA"
  | .stx => "STX"
  | .sty => "STY"
  | .tax => "TAX"
  | .tay => "TAY"
  | .tsx => "TSX"
  | .txa => "TXA"
  | .txs => "TXS"
  | .tya => "TYA"
  | .jam => "JAM"
  | .slo => "SLO"
  | .nopUndoc => "NOP"
  | .anc => "ANC"
  | .rla => "RLA"
  | .sre => "SRE"
  | .alr => "ALR"
  | .rra => "RRA"
  | .arr => "ARR"
  | .sax => "SAX"
  | .xaa => "XAA"
  | .ahx => "AHX"
  | .tas => "TAS"
  | .shy => "SHY"
  | .shx => "SHX"
  | .lax => "LAX"
  | .las => "LAS"
  | .dcp => "DCP"
  | .axs => "AXS"
  | .isc => "ISC"
  | .sbcUndoc => "SBC"

/-- A mnemonic with an operand: a line of assembler text, which may be a form no opcode has (R55). -/
structure Form where
  mnemonic : Mnemonic
  operand : Operand
  deriving DecidableEq, Repr

/-- The instructions, one constructor per row of spec/opcode_table.json. A documented row is named by its mnemonic and
mode, an undocumented one by its label and opcode byte. The operand bytes stand assembled (R52): `v` a datum, `off` a
branch offset, `z` a zero-page address or pointer, `addr` a 16-bit address, `p` a 16-bit pointer. Rows with operand
bytes come first. -/
inductive Instr where
  | oraIndX (z : Byte)
  | oraZp (z : Byte)
  | aslZp (z : Byte)
  | oraImm (v : Byte)
  | oraAbs (addr : Addr)
  | aslAbs (addr : Addr)
  | bpl (off : Byte)
  | oraIndY (z : Byte)
  | oraZpX (z : Byte)
  | aslZpX (z : Byte)
  | oraAbsY (addr : Addr)
  | oraAbsX (addr : Addr)
  | aslAbsX (addr : Addr)
  | jsrAbs (addr : Addr)
  | andIndX (z : Byte)
  | bitZp (z : Byte)
  | andZp (z : Byte)
  | rolZp (z : Byte)
  | andImm (v : Byte)
  | bitAbs (addr : Addr)
  | andAbs (addr : Addr)
  | rolAbs (addr : Addr)
  | bmi (off : Byte)
  | andIndY (z : Byte)
  | andZpX (z : Byte)
  | rolZpX (z : Byte)
  | andAbsY (addr : Addr)
  | andAbsX (addr : Addr)
  | rolAbsX (addr : Addr)
  | eorIndX (z : Byte)
  | eorZp (z : Byte)
  | lsrZp (z : Byte)
  | eorImm (v : Byte)
  | jmpAbs (addr : Addr)
  | eorAbs (addr : Addr)
  | lsrAbs (addr : Addr)
  | bvc (off : Byte)
  | eorIndY (z : Byte)
  | eorZpX (z : Byte)
  | lsrZpX (z : Byte)
  | eorAbsY (addr : Addr)
  | eorAbsX (addr : Addr)
  | lsrAbsX (addr : Addr)
  | adcIndX (z : Byte)
  | adcZp (z : Byte)
  | rorZp (z : Byte)
  | adcImm (v : Byte)
  | jmpInd (p : Addr)
  | adcAbs (addr : Addr)
  | rorAbs (addr : Addr)
  | bvs (off : Byte)
  | adcIndY (z : Byte)
  | adcZpX (z : Byte)
  | rorZpX (z : Byte)
  | adcAbsY (addr : Addr)
  | adcAbsX (addr : Addr)
  | rorAbsX (addr : Addr)
  | staIndX (z : Byte)
  | styZp (z : Byte)
  | staZp (z : Byte)
  | stxZp (z : Byte)
  | styAbs (addr : Addr)
  | staAbs (addr : Addr)
  | stxAbs (addr : Addr)
  | bcc (off : Byte)
  | staIndY (z : Byte)
  | styZpX (z : Byte)
  | staZpX (z : Byte)
  | stxZpY (z : Byte)
  | staAbsY (addr : Addr)
  | staAbsX (addr : Addr)
  | ldyImm (v : Byte)
  | ldaIndX (z : Byte)
  | ldxImm (v : Byte)
  | ldyZp (z : Byte)
  | ldaZp (z : Byte)
  | ldxZp (z : Byte)
  | ldaImm (v : Byte)
  | ldyAbs (addr : Addr)
  | ldaAbs (addr : Addr)
  | ldxAbs (addr : Addr)
  | bcs (off : Byte)
  | ldaIndY (z : Byte)
  | ldyZpX (z : Byte)
  | ldaZpX (z : Byte)
  | ldxZpY (z : Byte)
  | ldaAbsY (addr : Addr)
  | ldyAbsX (addr : Addr)
  | ldaAbsX (addr : Addr)
  | ldxAbsY (addr : Addr)
  | cpyImm (v : Byte)
  | cmpIndX (z : Byte)
  | cpyZp (z : Byte)
  | cmpZp (z : Byte)
  | decZp (z : Byte)
  | cmpImm (v : Byte)
  | cpyAbs (addr : Addr)
  | cmpAbs (addr : Addr)
  | decAbs (addr : Addr)
  | bne (off : Byte)
  | cmpIndY (z : Byte)
  | cmpZpX (z : Byte)
  | decZpX (z : Byte)
  | cmpAbsY (addr : Addr)
  | cmpAbsX (addr : Addr)
  | decAbsX (addr : Addr)
  | cpxImm (v : Byte)
  | sbcIndX (z : Byte)
  | cpxZp (z : Byte)
  | sbcZp (z : Byte)
  | incZp (z : Byte)
  | sbcImm (v : Byte)
  | cpxAbs (addr : Addr)
  | sbcAbs (addr : Addr)
  | incAbs (addr : Addr)
  | beq (off : Byte)
  | sbcIndY (z : Byte)
  | sbcZpX (z : Byte)
  | incZpX (z : Byte)
  | sbcAbsY (addr : Addr)
  | sbcAbsX (addr : Addr)
  | incAbsX (addr : Addr)
  | slo03 (z : Byte)
  | nop04 (z : Byte)
  | slo07 (z : Byte)
  | anc0B (v : Byte)
  | nop0C (addr : Addr)
  | slo0F (addr : Addr)
  | slo13 (z : Byte)
  | nop14 (z : Byte)
  | slo17 (z : Byte)
  | slo1B (addr : Addr)
  | nop1C (addr : Addr)
  | slo1F (addr : Addr)
  | rla23 (z : Byte)
  | rla27 (z : Byte)
  | anc2B (v : Byte)
  | rla2F (addr : Addr)
  | rla33 (z : Byte)
  | nop34 (z : Byte)
  | rla37 (z : Byte)
  | rla3B (addr : Addr)
  | nop3C (addr : Addr)
  | rla3F (addr : Addr)
  | sre43 (z : Byte)
  | nop44 (z : Byte)
  | sre47 (z : Byte)
  | alr4B (v : Byte)
  | sre4F (addr : Addr)
  | sre53 (z : Byte)
  | nop54 (z : Byte)
  | sre57 (z : Byte)
  | sre5B (addr : Addr)
  | nop5C (addr : Addr)
  | sre5F (addr : Addr)
  | rra63 (z : Byte)
  | nop64 (z : Byte)
  | rra67 (z : Byte)
  | arr6B (v : Byte)
  | rra6F (addr : Addr)
  | rra73 (z : Byte)
  | nop74 (z : Byte)
  | rra77 (z : Byte)
  | rra7B (addr : Addr)
  | nop7C (addr : Addr)
  | rra7F (addr : Addr)
  | nop80 (v : Byte)
  | nop82 (v : Byte)
  | sax83 (z : Byte)
  | sax87 (z : Byte)
  | nop89 (v : Byte)
  | xaa8B (v : Byte)
  | sax8F (addr : Addr)
  | ahx93 (z : Byte)
  | sax97 (z : Byte)
  | tas9B (addr : Addr)
  | shy9C (addr : Addr)
  | shx9E (addr : Addr)
  | ahx9F (addr : Addr)
  | laxA3 (z : Byte)
  | laxA7 (z : Byte)
  | laxAB (v : Byte)
  | laxAF (addr : Addr)
  | laxB3 (z : Byte)
  | laxB7 (z : Byte)
  | lasBB (addr : Addr)
  | laxBF (addr : Addr)
  | nopC2 (v : Byte)
  | dcpC3 (z : Byte)
  | dcpC7 (z : Byte)
  | axsCB (v : Byte)
  | dcpCF (addr : Addr)
  | dcpD3 (z : Byte)
  | nopD4 (z : Byte)
  | dcpD7 (z : Byte)
  | dcpDB (addr : Addr)
  | nopDC (addr : Addr)
  | dcpDF (addr : Addr)
  | nopE2 (v : Byte)
  | iscE3 (z : Byte)
  | iscE7 (z : Byte)
  | sbcEB (v : Byte)
  | iscEF (addr : Addr)
  | iscF3 (z : Byte)
  | nopF4 (z : Byte)
  | iscF7 (z : Byte)
  | iscFB (addr : Addr)
  | nopFC (addr : Addr)
  | iscFF (addr : Addr)
  | brk
  | php
  | aslAcc
  | clc
  | plp
  | rolAcc
  | sec
  | rti
  | pha
  | lsrAcc
  | cli
  | rts
  | pla
  | rorAcc
  | sei
  | dey
  | txa
  | tya
  | txs
  | tay
  | tax
  | clv
  | tsx
  | iny
  | dex
  | cld
  | inx
  | nop
  | sed
  | jam02
  | jam12
  | nop1A
  | jam22
  | jam32
  | nop3A
  | jam42
  | jam52
  | nop5A
  | jam62
  | jam72
  | nop7A
  | jam92
  | jamB2
  | jamD2
  | nopDA
  | jamF2
  | nopFA
  deriving DecidableEq, Repr

/-- The mnemonic of the instruction's catalog row (R54, R58). -/
def Instr.mnemonic : Instr → Mnemonic
  | .adcIndX _ | .adcZp _ | .adcImm _ | .adcAbs _ | .adcIndY _ | .adcZpX _ | .adcAbsY _ | .adcAbsX _ => .adc
  | .andIndX _ | .andZp _ | .andImm _ | .andAbs _ | .andIndY _ | .andZpX _ | .andAbsY _ | .andAbsX _ => .and
  | .aslZp _ | .aslAcc | .aslAbs _ | .aslZpX _ | .aslAbsX _ => .asl
  | .bcc _ => .bcc
  | .bcs _ => .bcs
  | .beq _ => .beq
  | .bitZp _ | .bitAbs _ => .bit
  | .bmi _ => .bmi
  | .bne _ => .bne
  | .bpl _ => .bpl
  | .brk => .brk
  | .bvc _ => .bvc
  | .bvs _ => .bvs
  | .clc => .clc
  | .cld => .cld
  | .cli => .cli
  | .clv => .clv
  | .cmpIndX _ | .cmpZp _ | .cmpImm _ | .cmpAbs _ | .cmpIndY _ | .cmpZpX _ | .cmpAbsY _ | .cmpAbsX _ => .cmp
  | .cpxImm _ | .cpxZp _ | .cpxAbs _ => .cpx
  | .cpyImm _ | .cpyZp _ | .cpyAbs _ => .cpy
  | .decZp _ | .decAbs _ | .decZpX _ | .decAbsX _ => .dec
  | .dex => .dex
  | .dey => .dey
  | .eorIndX _ | .eorZp _ | .eorImm _ | .eorAbs _ | .eorIndY _ | .eorZpX _ | .eorAbsY _ | .eorAbsX _ => .eor
  | .incZp _ | .incAbs _ | .incZpX _ | .incAbsX _ => .inc
  | .inx => .inx
  | .iny => .iny
  | .jmpAbs _ | .jmpInd _ => .jmp
  | .jsrAbs _ => .jsr
  | .ldaIndX _ | .ldaZp _ | .ldaImm _ | .ldaAbs _ | .ldaIndY _ | .ldaZpX _ | .ldaAbsY _ | .ldaAbsX _ => .lda
  | .ldxImm _ | .ldxZp _ | .ldxAbs _ | .ldxZpY _ | .ldxAbsY _ => .ldx
  | .ldyImm _ | .ldyZp _ | .ldyAbs _ | .ldyZpX _ | .ldyAbsX _ => .ldy
  | .lsrZp _ | .lsrAcc | .lsrAbs _ | .lsrZpX _ | .lsrAbsX _ => .lsr
  | .nop => .nop
  | .oraIndX _ | .oraZp _ | .oraImm _ | .oraAbs _ | .oraIndY _ | .oraZpX _ | .oraAbsY _ | .oraAbsX _ => .ora
  | .pha => .pha
  | .php => .php
  | .pla => .pla
  | .plp => .plp
  | .rolZp _ | .rolAcc | .rolAbs _ | .rolZpX _ | .rolAbsX _ => .rol
  | .rorZp _ | .rorAcc | .rorAbs _ | .rorZpX _ | .rorAbsX _ => .ror
  | .rti => .rti
  | .rts => .rts
  | .sbcIndX _ | .sbcZp _ | .sbcImm _ | .sbcAbs _ | .sbcIndY _ | .sbcZpX _ | .sbcAbsY _ | .sbcAbsX _ => .sbc
  | .sec => .sec
  | .sed => .sed
  | .sei => .sei
  | .staIndX _ | .staZp _ | .staAbs _ | .staIndY _ | .staZpX _ | .staAbsY _ | .staAbsX _ => .sta
  | .stxZp _ | .stxAbs _ | .stxZpY _ => .stx
  | .styZp _ | .styAbs _ | .styZpX _ => .sty
  | .tax => .tax
  | .tay => .tay
  | .tsx => .tsx
  | .txa => .txa
  | .txs => .txs
  | .tya => .tya
  | .jam02 | .jam12 | .jam22 | .jam32 | .jam42 | .jam52 | .jam62 | .jam72 | .jam92 | .jamB2 | .jamD2 | .jamF2 => .jam
  | .slo03 _ | .slo07 _ | .slo0F _ | .slo13 _ | .slo17 _ | .slo1B _ | .slo1F _ => .slo
  | .nop04 _ | .nop0C _ | .nop14 _ | .nop1A | .nop1C _ | .nop34 _ | .nop3A | .nop3C _ | .nop44 _ | .nop54 _
  | .nop5A | .nop5C _ | .nop64 _ | .nop74 _ | .nop7A | .nop7C _ | .nop80 _ | .nop82 _ | .nop89 _ | .nopC2 _
  | .nopD4 _ | .nopDA | .nopDC _ | .nopE2 _ | .nopF4 _ | .nopFA | .nopFC _ => .nopUndoc
  | .anc0B _ | .anc2B _ => .anc
  | .rla23 _ | .rla27 _ | .rla2F _ | .rla33 _ | .rla37 _ | .rla3B _ | .rla3F _ => .rla
  | .sre43 _ | .sre47 _ | .sre4F _ | .sre53 _ | .sre57 _ | .sre5B _ | .sre5F _ => .sre
  | .alr4B _ => .alr
  | .rra63 _ | .rra67 _ | .rra6F _ | .rra73 _ | .rra77 _ | .rra7B _ | .rra7F _ => .rra
  | .arr6B _ => .arr
  | .sax83 _ | .sax87 _ | .sax8F _ | .sax97 _ => .sax
  | .xaa8B _ => .xaa
  | .ahx93 _ | .ahx9F _ => .ahx
  | .tas9B _ => .tas
  | .shy9C _ => .shy
  | .shx9E _ => .shx
  | .laxA3 _ | .laxA7 _ | .laxAB _ | .laxAF _ | .laxB3 _ | .laxB7 _ | .laxBF _ => .lax
  | .lasBB _ => .las
  | .dcpC3 _ | .dcpC7 _ | .dcpCF _ | .dcpD3 _ | .dcpD7 _ | .dcpDB _ | .dcpDF _ => .dcp
  | .axsCB _ => .axs
  | .iscE3 _ | .iscE7 _ | .iscEF _ | .iscF3 _ | .iscF7 _ | .iscFB _ | .iscFF _ => .isc
  | .sbcEB _ => .sbcUndoc

/-- The operand of the instruction, in the mode of its catalog row (R54, R58). -/
def Instr.operand : Instr → Operand
  | .oraIndX z => .memory (.indirectX z)
  | .oraZp z => .memory (.zeroPage z)
  | .aslZp z => .memory (.zeroPage z)
  | .oraImm v => .immediate v
  | .oraAbs addr => .memory (.absolute addr)
  | .aslAbs addr => .memory (.absolute addr)
  | .bpl off => .relative off
  | .oraIndY z => .memory (.indirectY z)
  | .oraZpX z => .memory (.zeroPageX z)
  | .aslZpX z => .memory (.zeroPageX z)
  | .oraAbsY addr => .memory (.absoluteY addr)
  | .oraAbsX addr => .memory (.absoluteX addr)
  | .aslAbsX addr => .memory (.absoluteX addr)
  | .jsrAbs addr => .memory (.absolute addr)
  | .andIndX z => .memory (.indirectX z)
  | .bitZp z => .memory (.zeroPage z)
  | .andZp z => .memory (.zeroPage z)
  | .rolZp z => .memory (.zeroPage z)
  | .andImm v => .immediate v
  | .bitAbs addr => .memory (.absolute addr)
  | .andAbs addr => .memory (.absolute addr)
  | .rolAbs addr => .memory (.absolute addr)
  | .bmi off => .relative off
  | .andIndY z => .memory (.indirectY z)
  | .andZpX z => .memory (.zeroPageX z)
  | .rolZpX z => .memory (.zeroPageX z)
  | .andAbsY addr => .memory (.absoluteY addr)
  | .andAbsX addr => .memory (.absoluteX addr)
  | .rolAbsX addr => .memory (.absoluteX addr)
  | .eorIndX z => .memory (.indirectX z)
  | .eorZp z => .memory (.zeroPage z)
  | .lsrZp z => .memory (.zeroPage z)
  | .eorImm v => .immediate v
  | .jmpAbs addr => .memory (.absolute addr)
  | .eorAbs addr => .memory (.absolute addr)
  | .lsrAbs addr => .memory (.absolute addr)
  | .bvc off => .relative off
  | .eorIndY z => .memory (.indirectY z)
  | .eorZpX z => .memory (.zeroPageX z)
  | .lsrZpX z => .memory (.zeroPageX z)
  | .eorAbsY addr => .memory (.absoluteY addr)
  | .eorAbsX addr => .memory (.absoluteX addr)
  | .lsrAbsX addr => .memory (.absoluteX addr)
  | .adcIndX z => .memory (.indirectX z)
  | .adcZp z => .memory (.zeroPage z)
  | .rorZp z => .memory (.zeroPage z)
  | .adcImm v => .immediate v
  | .jmpInd p => .memory (.indirect p)
  | .adcAbs addr => .memory (.absolute addr)
  | .rorAbs addr => .memory (.absolute addr)
  | .bvs off => .relative off
  | .adcIndY z => .memory (.indirectY z)
  | .adcZpX z => .memory (.zeroPageX z)
  | .rorZpX z => .memory (.zeroPageX z)
  | .adcAbsY addr => .memory (.absoluteY addr)
  | .adcAbsX addr => .memory (.absoluteX addr)
  | .rorAbsX addr => .memory (.absoluteX addr)
  | .staIndX z => .memory (.indirectX z)
  | .styZp z => .memory (.zeroPage z)
  | .staZp z => .memory (.zeroPage z)
  | .stxZp z => .memory (.zeroPage z)
  | .styAbs addr => .memory (.absolute addr)
  | .staAbs addr => .memory (.absolute addr)
  | .stxAbs addr => .memory (.absolute addr)
  | .bcc off => .relative off
  | .staIndY z => .memory (.indirectY z)
  | .styZpX z => .memory (.zeroPageX z)
  | .staZpX z => .memory (.zeroPageX z)
  | .stxZpY z => .memory (.zeroPageY z)
  | .staAbsY addr => .memory (.absoluteY addr)
  | .staAbsX addr => .memory (.absoluteX addr)
  | .ldyImm v => .immediate v
  | .ldaIndX z => .memory (.indirectX z)
  | .ldxImm v => .immediate v
  | .ldyZp z => .memory (.zeroPage z)
  | .ldaZp z => .memory (.zeroPage z)
  | .ldxZp z => .memory (.zeroPage z)
  | .ldaImm v => .immediate v
  | .ldyAbs addr => .memory (.absolute addr)
  | .ldaAbs addr => .memory (.absolute addr)
  | .ldxAbs addr => .memory (.absolute addr)
  | .bcs off => .relative off
  | .ldaIndY z => .memory (.indirectY z)
  | .ldyZpX z => .memory (.zeroPageX z)
  | .ldaZpX z => .memory (.zeroPageX z)
  | .ldxZpY z => .memory (.zeroPageY z)
  | .ldaAbsY addr => .memory (.absoluteY addr)
  | .ldyAbsX addr => .memory (.absoluteX addr)
  | .ldaAbsX addr => .memory (.absoluteX addr)
  | .ldxAbsY addr => .memory (.absoluteY addr)
  | .cpyImm v => .immediate v
  | .cmpIndX z => .memory (.indirectX z)
  | .cpyZp z => .memory (.zeroPage z)
  | .cmpZp z => .memory (.zeroPage z)
  | .decZp z => .memory (.zeroPage z)
  | .cmpImm v => .immediate v
  | .cpyAbs addr => .memory (.absolute addr)
  | .cmpAbs addr => .memory (.absolute addr)
  | .decAbs addr => .memory (.absolute addr)
  | .bne off => .relative off
  | .cmpIndY z => .memory (.indirectY z)
  | .cmpZpX z => .memory (.zeroPageX z)
  | .decZpX z => .memory (.zeroPageX z)
  | .cmpAbsY addr => .memory (.absoluteY addr)
  | .cmpAbsX addr => .memory (.absoluteX addr)
  | .decAbsX addr => .memory (.absoluteX addr)
  | .cpxImm v => .immediate v
  | .sbcIndX z => .memory (.indirectX z)
  | .cpxZp z => .memory (.zeroPage z)
  | .sbcZp z => .memory (.zeroPage z)
  | .incZp z => .memory (.zeroPage z)
  | .sbcImm v => .immediate v
  | .cpxAbs addr => .memory (.absolute addr)
  | .sbcAbs addr => .memory (.absolute addr)
  | .incAbs addr => .memory (.absolute addr)
  | .beq off => .relative off
  | .sbcIndY z => .memory (.indirectY z)
  | .sbcZpX z => .memory (.zeroPageX z)
  | .incZpX z => .memory (.zeroPageX z)
  | .sbcAbsY addr => .memory (.absoluteY addr)
  | .sbcAbsX addr => .memory (.absoluteX addr)
  | .incAbsX addr => .memory (.absoluteX addr)
  | .slo03 z => .memory (.indirectX z)
  | .nop04 z => .memory (.zeroPage z)
  | .slo07 z => .memory (.zeroPage z)
  | .anc0B v => .immediate v
  | .nop0C addr => .memory (.absolute addr)
  | .slo0F addr => .memory (.absolute addr)
  | .slo13 z => .memory (.indirectY z)
  | .nop14 z => .memory (.zeroPageX z)
  | .slo17 z => .memory (.zeroPageX z)
  | .slo1B addr => .memory (.absoluteY addr)
  | .nop1C addr => .memory (.absoluteX addr)
  | .slo1F addr => .memory (.absoluteX addr)
  | .rla23 z => .memory (.indirectX z)
  | .rla27 z => .memory (.zeroPage z)
  | .anc2B v => .immediate v
  | .rla2F addr => .memory (.absolute addr)
  | .rla33 z => .memory (.indirectY z)
  | .nop34 z => .memory (.zeroPageX z)
  | .rla37 z => .memory (.zeroPageX z)
  | .rla3B addr => .memory (.absoluteY addr)
  | .nop3C addr => .memory (.absoluteX addr)
  | .rla3F addr => .memory (.absoluteX addr)
  | .sre43 z => .memory (.indirectX z)
  | .nop44 z => .memory (.zeroPage z)
  | .sre47 z => .memory (.zeroPage z)
  | .alr4B v => .immediate v
  | .sre4F addr => .memory (.absolute addr)
  | .sre53 z => .memory (.indirectY z)
  | .nop54 z => .memory (.zeroPageX z)
  | .sre57 z => .memory (.zeroPageX z)
  | .sre5B addr => .memory (.absoluteY addr)
  | .nop5C addr => .memory (.absoluteX addr)
  | .sre5F addr => .memory (.absoluteX addr)
  | .rra63 z => .memory (.indirectX z)
  | .nop64 z => .memory (.zeroPage z)
  | .rra67 z => .memory (.zeroPage z)
  | .arr6B v => .immediate v
  | .rra6F addr => .memory (.absolute addr)
  | .rra73 z => .memory (.indirectY z)
  | .nop74 z => .memory (.zeroPageX z)
  | .rra77 z => .memory (.zeroPageX z)
  | .rra7B addr => .memory (.absoluteY addr)
  | .nop7C addr => .memory (.absoluteX addr)
  | .rra7F addr => .memory (.absoluteX addr)
  | .nop80 v => .immediate v
  | .nop82 v => .immediate v
  | .sax83 z => .memory (.indirectX z)
  | .sax87 z => .memory (.zeroPage z)
  | .nop89 v => .immediate v
  | .xaa8B v => .immediate v
  | .sax8F addr => .memory (.absolute addr)
  | .ahx93 z => .memory (.indirectY z)
  | .sax97 z => .memory (.zeroPageY z)
  | .tas9B addr => .memory (.absoluteY addr)
  | .shy9C addr => .memory (.absoluteX addr)
  | .shx9E addr => .memory (.absoluteY addr)
  | .ahx9F addr => .memory (.absoluteY addr)
  | .laxA3 z => .memory (.indirectX z)
  | .laxA7 z => .memory (.zeroPage z)
  | .laxAB v => .immediate v
  | .laxAF addr => .memory (.absolute addr)
  | .laxB3 z => .memory (.indirectY z)
  | .laxB7 z => .memory (.zeroPageY z)
  | .lasBB addr => .memory (.absoluteY addr)
  | .laxBF addr => .memory (.absoluteY addr)
  | .nopC2 v => .immediate v
  | .dcpC3 z => .memory (.indirectX z)
  | .dcpC7 z => .memory (.zeroPage z)
  | .axsCB v => .immediate v
  | .dcpCF addr => .memory (.absolute addr)
  | .dcpD3 z => .memory (.indirectY z)
  | .nopD4 z => .memory (.zeroPageX z)
  | .dcpD7 z => .memory (.zeroPageX z)
  | .dcpDB addr => .memory (.absoluteY addr)
  | .nopDC addr => .memory (.absoluteX addr)
  | .dcpDF addr => .memory (.absoluteX addr)
  | .nopE2 v => .immediate v
  | .iscE3 z => .memory (.indirectX z)
  | .iscE7 z => .memory (.zeroPage z)
  | .sbcEB v => .immediate v
  | .iscEF addr => .memory (.absolute addr)
  | .iscF3 z => .memory (.indirectY z)
  | .nopF4 z => .memory (.zeroPageX z)
  | .iscF7 z => .memory (.zeroPageX z)
  | .iscFB addr => .memory (.absoluteY addr)
  | .nopFC addr => .memory (.absoluteX addr)
  | .iscFF addr => .memory (.absoluteX addr)
  | .brk => .implicit
  | .php => .implicit
  | .aslAcc => .accumulator
  | .clc => .implicit
  | .plp => .implicit
  | .rolAcc => .accumulator
  | .sec => .implicit
  | .rti => .implicit
  | .pha => .implicit
  | .lsrAcc => .accumulator
  | .cli => .implicit
  | .rts => .implicit
  | .pla => .implicit
  | .rorAcc => .accumulator
  | .sei => .implicit
  | .dey => .implicit
  | .txa => .implicit
  | .tya => .implicit
  | .txs => .implicit
  | .tay => .implicit
  | .tax => .implicit
  | .clv => .implicit
  | .tsx => .implicit
  | .iny => .implicit
  | .dex => .implicit
  | .cld => .implicit
  | .inx => .implicit
  | .nop => .implicit
  | .sed => .implicit
  | .jam02 => .implicit
  | .jam12 => .implicit
  | .nop1A => .implicit
  | .jam22 => .implicit
  | .jam32 => .implicit
  | .nop3A => .implicit
  | .jam42 => .implicit
  | .jam52 => .implicit
  | .nop5A => .implicit
  | .jam62 => .implicit
  | .jam72 => .implicit
  | .nop7A => .implicit
  | .jam92 => .implicit
  | .jamB2 => .implicit
  | .jamD2 => .implicit
  | .nopDA => .implicit
  | .jamF2 => .implicit
  | .nopFA => .implicit

/-- The instruction as a line of assembler text. -/
def Instr.form (i : Instr) : Form := { mnemonic := i.mnemonic, operand := i.operand }

end Sys2Proof
end

