-- ==== Sys2Proof/WellFormed.lean ====
section
/-! DEFINITION. Which forms have an opcode (30_encoding.md R54, R55, R58): the table of R54 by mnemonic, and for the
labels of the undocumented opcodes that of R58. Operand bytes are never restricted: "no operand-byte value is reserved"
(R59). -/

namespace Sys2Proof

/-- The modes in which a mnemonic has an opcode (R54 for the documented mnemonics, R58 for the others). -/
def Mnemonic.modes : Mnemonic → List Mode
  | .adc => [.immediate, .zeroPage, .zeroPageX, .absolute, .absoluteX, .absoluteY, .indirectX, .indirectY]
  | .and => [.immediate, .zeroPage, .zeroPageX, .absolute, .absoluteX, .absoluteY, .indirectX, .indirectY]
  | .asl => [.accumulator, .zeroPage, .zeroPageX, .absolute, .absoluteX]
  | .bcc => [.relative]
  | .bcs => [.relative]
  | .beq => [.relative]
  | .bit => [.zeroPage, .absolute]
  | .bmi => [.relative]
  | .bne => [.relative]
  | .bpl => [.relative]
  | .brk => [.implicit]
  | .bvc => [.relative]
  | .bvs => [.relative]
  | .clc => [.implicit]
  | .cld => [.implicit]
  | .cli => [.implicit]
  | .clv => [.implicit]
  | .cmp => [.immediate, .zeroPage, .zeroPageX, .absolute, .absoluteX, .absoluteY, .indirectX, .indirectY]
  | .cpx => [.immediate, .zeroPage, .absolute]
  | .cpy => [.immediate, .zeroPage, .absolute]
  | .dec => [.zeroPage, .zeroPageX, .absolute, .absoluteX]
  | .dex => [.implicit]
  | .dey => [.implicit]
  | .eor => [.immediate, .zeroPage, .zeroPageX, .absolute, .absoluteX, .absoluteY, .indirectX, .indirectY]
  | .inc => [.zeroPage, .zeroPageX, .absolute, .absoluteX]
  | .inx => [.implicit]
  | .iny => [.implicit]
  | .jmp => [.absolute, .indirect]
  | .jsr => [.absolute]
  | .lda => [.immediate, .zeroPage, .zeroPageX, .absolute, .absoluteX, .absoluteY, .indirectX, .indirectY]
  | .ldx => [.immediate, .zeroPage, .zeroPageY, .absolute, .absoluteY]
  | .ldy => [.immediate, .zeroPage, .zeroPageX, .absolute, .absoluteX]
  | .lsr => [.accumulator, .zeroPage, .zeroPageX, .absolute, .absoluteX]
  | .nop => [.implicit]
  | .ora => [.immediate, .zeroPage, .zeroPageX, .absolute, .absoluteX, .absoluteY, .indirectX, .indirectY]
  | .pha => [.implicit]
  | .php => [.implicit]
  | .pla => [.implicit]
  | .plp => [.implicit]
  | .rol => [.accumulator, .zeroPage, .zeroPageX, .absolute, .absoluteX]
  | .ror => [.accumulator, .zeroPage, .zeroPageX, .absolute, .absoluteX]
  | .rti => [.implicit]
  | .rts => [.implicit]
  | .sbc => [.immediate, .zeroPage, .zeroPageX, .absolute, .absoluteX, .absoluteY, .indirectX, .indirectY]
  | .sec => [.implicit]
  | .sed => [.implicit]
  | .sei => [.implicit]
  | .sta => [.zeroPage, .zeroPageX, .absolute, .absoluteX, .absoluteY, .indirectX, .indirectY]
  | .stx => [.zeroPage, .zeroPageY, .absolute]
  | .sty => [.zeroPage, .zeroPageX, .absolute]
  | .tax => [.implicit]
  | .tay => [.implicit]
  | .tsx => [.implicit]
  | .txa => [.implicit]
  | .txs => [.implicit]
  | .tya => [.implicit]
  | .jam => [.implicit]
  | .slo => [.zeroPage, .zeroPageX, .absolute, .absoluteX, .absoluteY, .indirectX, .indirectY]
  | .nopUndoc => [.implicit, .immediate, .zeroPage, .zeroPageX, .absolute, .absoluteX]
  | .anc => [.immediate]
  | .rla => [.zeroPage, .zeroPageX, .absolute, .absoluteX, .absoluteY, .indirectX, .indirectY]
  | .sre => [.zeroPage, .zeroPageX, .absolute, .absoluteX, .absoluteY, .indirectX, .indirectY]
  | .alr => [.immediate]
  | .rra => [.zeroPage, .zeroPageX, .absolute, .absoluteX, .absoluteY, .indirectX, .indirectY]
  | .arr => [.immediate]
  | .sax => [.zeroPage, .zeroPageY, .absolute, .indirectX]
  | .xaa => [.immediate]
  | .ahx => [.absoluteY, .indirectY]
  | .tas => [.absoluteY]
  | .shy => [.absoluteX]
  | .shx => [.absoluteY]
  | .lax => [.immediate, .zeroPage, .zeroPageY, .absolute, .absoluteY, .indirectX, .indirectY]
  | .las => [.absoluteY]
  | .dcp => [.zeroPage, .zeroPageX, .absolute, .absoluteX, .absoluteY, .indirectX, .indirectY]
  | .axs => [.immediate]
  | .isc => [.zeroPage, .zeroPageX, .absolute, .absoluteX, .absoluteY, .indirectX, .indirectY]
  | .sbcUndoc => [.immediate]

/-- A form can be executed exactly when the mnemonic has an opcode in the operand's mode (R55). -/
def Form.wf (f : Form) : Bool := f.mnemonic.modes.contains f.operand.mode

/-- The check on an instruction: its form is one of R54 or R58. -/
def Instr.wf (i : Instr) : Bool := i.form.wf

end Sys2Proof
end

