-- ==== Sys2Proof/Decode.lean ====
section
/-! DEFINITION. The Instruction Catalog (30_encoding.md R53), the decoder and the encoder. The decoder is total: every
opcode byte has an entry (R51, R58), and the only byte strings it rejects, by name, are the ones that end inside an
instruction. The opcode values are those of R54, R57 and R58 (general knowledge of the spec, D12; log 6). -/

namespace Sys2Proof

/-! ### Byte order (20_memory.md R40) -/

/-- `hi:lo`, the 16-bit quantity of two bytes (R7). -/
def word (hi lo : Byte) : Addr := hi ++ lo

/-- `a[7:0]`. -/
def loByte (a : Addr) : Byte := a.extractLsb' 0 8

/-- `a[15:8]`. -/
def hiByte (a : Addr) : Byte := a.extractLsb' 8 8

/-! ### The catalog (R53) -/

/-- What may be added to the base cycles (R198): nothing, one for a page crossing (`+p`), or the branch cycles. -/
inductive Penalty where
  | none
  | page
  | branch
  deriving DecidableEq, Repr

/-- An entry of the Instruction Catalog (R53). -/
structure CatalogEntry where
  mnemonic : Mnemonic
  mode : Mode
  baseCycles : Nat
  penalty : Penalty
  deriving DecidableEq, Repr


/-- Row 0_ of the opcode map (R57), with the base cycles of R58 and R61. -/
def catalogRow0 : List CatalogEntry :=
  [ ⟨.brk, .implicit, 7, .none⟩, ⟨.ora, .indirectX, 6, .none⟩,
    ⟨.jam, .implicit, 2, .none⟩, ⟨.slo, .indirectX, 8, .none⟩,
    ⟨.nopUndoc, .zeroPage, 3, .none⟩, ⟨.ora, .zeroPage, 3, .none⟩,
    ⟨.asl, .zeroPage, 5, .none⟩, ⟨.slo, .zeroPage, 5, .none⟩,
    ⟨.php, .implicit, 3, .none⟩, ⟨.ora, .immediate, 2, .none⟩,
    ⟨.asl, .accumulator, 2, .none⟩, ⟨.anc, .immediate, 2, .none⟩,
    ⟨.nopUndoc, .absolute, 4, .none⟩, ⟨.ora, .absolute, 4, .none⟩,
    ⟨.asl, .absolute, 6, .none⟩, ⟨.slo, .absolute, 6, .none⟩ ]

/-- Row 1_ of the opcode map (R57), with the base cycles of R58 and R61. -/
def catalogRow1 : List CatalogEntry :=
  [ ⟨.bpl, .relative, 2, .branch⟩, ⟨.ora, .indirectY, 5, .page⟩,
    ⟨.jam, .implicit, 2, .none⟩, ⟨.slo, .indirectY, 8, .none⟩,
    ⟨.nopUndoc, .zeroPageX, 4, .none⟩, ⟨.ora, .zeroPageX, 4, .none⟩,
    ⟨.asl, .zeroPageX, 6, .none⟩, ⟨.slo, .zeroPageX, 6, .none⟩,
    ⟨.clc, .implicit, 2, .none⟩, ⟨.ora, .absoluteY, 4, .page⟩,
    ⟨.nopUndoc, .implicit, 2, .none⟩, ⟨.slo, .absoluteY, 7, .none⟩,
    ⟨.nopUndoc, .absoluteX, 4, .page⟩, ⟨.ora, .absoluteX, 4, .page⟩,
    ⟨.asl, .absoluteX, 7, .none⟩, ⟨.slo, .absoluteX, 7, .none⟩ ]

/-- Row 2_ of the opcode map (R57), with the base cycles of R58 and R61. -/
def catalogRow2 : List CatalogEntry :=
  [ ⟨.jsr, .absolute, 6, .none⟩, ⟨.and, .indirectX, 6, .none⟩,
    ⟨.jam, .implicit, 2, .none⟩, ⟨.rla, .indirectX, 8, .none⟩,
    ⟨.bit, .zeroPage, 3, .none⟩, ⟨.and, .zeroPage, 3, .none⟩,
    ⟨.rol, .zeroPage, 5, .none⟩, ⟨.rla, .zeroPage, 5, .none⟩,
    ⟨.plp, .implicit, 4, .none⟩, ⟨.and, .immediate, 2, .none⟩,
    ⟨.rol, .accumulator, 2, .none⟩, ⟨.anc, .immediate, 2, .none⟩,
    ⟨.bit, .absolute, 4, .none⟩, ⟨.and, .absolute, 4, .none⟩,
    ⟨.rol, .absolute, 6, .none⟩, ⟨.rla, .absolute, 6, .none⟩ ]

/-- Row 3_ of the opcode map (R57), with the base cycles of R58 and R61. -/
def catalogRow3 : List CatalogEntry :=
  [ ⟨.bmi, .relative, 2, .branch⟩, ⟨.and, .indirectY, 5, .page⟩,
    ⟨.jam, .implicit, 2, .none⟩, ⟨.rla, .indirectY, 8, .none⟩,
    ⟨.nopUndoc, .zeroPageX, 4, .none⟩, ⟨.and, .zeroPageX, 4, .none⟩,
    ⟨.rol, .zeroPageX, 6, .none⟩, ⟨.rla, .zeroPageX, 6, .none⟩,
    ⟨.sec, .implicit, 2, .none⟩, ⟨.and, .absoluteY, 4, .page⟩,
    ⟨.nopUndoc, .implicit, 2, .none⟩, ⟨.rla, .absoluteY, 7, .none⟩,
    ⟨.nopUndoc, .absoluteX, 4, .page⟩, ⟨.and, .absoluteX, 4, .page⟩,
    ⟨.rol, .absoluteX, 7, .none⟩, ⟨.rla, .absoluteX, 7, .none⟩ ]

/-- Row 4_ of the opcode map (R57), with the base cycles of R58 and R61. -/
def catalogRow4 : List CatalogEntry :=
  [ ⟨.rti, .implicit, 6, .none⟩, ⟨.eor, .indirectX, 6, .none⟩,
    ⟨.jam, .implicit, 2, .none⟩, ⟨.sre, .indirectX, 8, .none⟩,
    ⟨.nopUndoc, .zeroPage, 3, .none⟩, ⟨.eor, .zeroPage, 3, .none⟩,
    ⟨.lsr, .zeroPage, 5, .none⟩, ⟨.sre, .zeroPage, 5, .none⟩,
    ⟨.pha, .implicit, 3, .none⟩, ⟨.eor, .immediate, 2, .none⟩,
    ⟨.lsr, .accumulator, 2, .none⟩, ⟨.alr, .immediate, 2, .none⟩,
    ⟨.jmp, .absolute, 3, .none⟩, ⟨.eor, .absolute, 4, .none⟩,
    ⟨.lsr, .absolute, 6, .none⟩, ⟨.sre, .absolute, 6, .none⟩ ]

/-- Row 5_ of the opcode map (R57), with the base cycles of R58 and R61. -/
def catalogRow5 : List CatalogEntry :=
  [ ⟨.bvc, .relative, 2, .branch⟩, ⟨.eor, .indirectY, 5, .page⟩,
    ⟨.jam, .implicit, 2, .none⟩, ⟨.sre, .indirectY, 8, .none⟩,
    ⟨.nopUndoc, .zeroPageX, 4, .none⟩, ⟨.eor, .zeroPageX, 4, .none⟩,
    ⟨.lsr, .zeroPageX, 6, .none⟩, ⟨.sre, .zeroPageX, 6, .none⟩,
    ⟨.cli, .implicit, 2, .none⟩, ⟨.eor, .absoluteY, 4, .page⟩,
    ⟨.nopUndoc, .implicit, 2, .none⟩, ⟨.sre, .absoluteY, 7, .none⟩,
    ⟨.nopUndoc, .absoluteX, 4, .page⟩, ⟨.eor, .absoluteX, 4, .page⟩,
    ⟨.lsr, .absoluteX, 7, .none⟩, ⟨.sre, .absoluteX, 7, .none⟩ ]

/-- Row 6_ of the opcode map (R57), with the base cycles of R58 and R61. -/
def catalogRow6 : List CatalogEntry :=
  [ ⟨.rts, .implicit, 6, .none⟩, ⟨.adc, .indirectX, 6, .none⟩,
    ⟨.jam, .implicit, 2, .none⟩, ⟨.rra, .indirectX, 8, .none⟩,
    ⟨.nopUndoc, .zeroPage, 3, .none⟩, ⟨.adc, .zeroPage, 3, .none⟩,
    ⟨.ror, .zeroPage, 5, .none⟩, ⟨.rra, .zeroPage, 5, .none⟩,
    ⟨.pla, .implicit, 4, .none⟩, ⟨.adc, .immediate, 2, .none⟩,
    ⟨.ror, .accumulator, 2, .none⟩, ⟨.arr, .immediate, 2, .none⟩,
    ⟨.jmp, .indirect, 5, .none⟩, ⟨.adc, .absolute, 4, .none⟩,
    ⟨.ror, .absolute, 6, .none⟩, ⟨.rra, .absolute, 6, .none⟩ ]

/-- Row 7_ of the opcode map (R57), with the base cycles of R58 and R61. -/
def catalogRow7 : List CatalogEntry :=
  [ ⟨.bvs, .relative, 2, .branch⟩, ⟨.adc, .indirectY, 5, .page⟩,
    ⟨.jam, .implicit, 2, .none⟩, ⟨.rra, .indirectY, 8, .none⟩,
    ⟨.nopUndoc, .zeroPageX, 4, .none⟩, ⟨.adc, .zeroPageX, 4, .none⟩,
    ⟨.ror, .zeroPageX, 6, .none⟩, ⟨.rra, .zeroPageX, 6, .none⟩,
    ⟨.sei, .implicit, 2, .none⟩, ⟨.adc, .absoluteY, 4, .page⟩,
    ⟨.nopUndoc, .implicit, 2, .none⟩, ⟨.rra, .absoluteY, 7, .none⟩,
    ⟨.nopUndoc, .absoluteX, 4, .page⟩, ⟨.adc, .absoluteX, 4, .page⟩,
    ⟨.ror, .absoluteX, 7, .none⟩, ⟨.rra, .absoluteX, 7, .none⟩ ]

/-- Row 8_ of the opcode map (R57), with the base cycles of R58 and R61. -/
def catalogRow8 : List CatalogEntry :=
  [ ⟨.nopUndoc, .immediate, 2, .none⟩, ⟨.sta, .indirectX, 6, .none⟩,
    ⟨.nopUndoc, .immediate, 2, .none⟩, ⟨.sax, .indirectX, 6, .none⟩,
    ⟨.sty, .zeroPage, 3, .none⟩, ⟨.sta, .zeroPage, 3, .none⟩,
    ⟨.stx, .zeroPage, 3, .none⟩, ⟨.sax, .zeroPage, 3, .none⟩,
    ⟨.dey, .implicit, 2, .none⟩, ⟨.nopUndoc, .immediate, 2, .none⟩,
    ⟨.txa, .implicit, 2, .none⟩, ⟨.xaa, .immediate, 2, .none⟩,
    ⟨.sty, .absolute, 4, .none⟩, ⟨.sta, .absolute, 4, .none⟩,
    ⟨.stx, .absolute, 4, .none⟩, ⟨.sax, .absolute, 4, .none⟩ ]

/-- Row 9_ of the opcode map (R57), with the base cycles of R58 and R61. -/
def catalogRow9 : List CatalogEntry :=
  [ ⟨.bcc, .relative, 2, .branch⟩, ⟨.sta, .indirectY, 6, .none⟩,
    ⟨.jam, .implicit, 2, .none⟩, ⟨.ahx, .indirectY, 6, .none⟩,
    ⟨.sty, .zeroPageX, 4, .none⟩, ⟨.sta, .zeroPageX, 4, .none⟩,
    ⟨.stx, .zeroPageY, 4, .none⟩, ⟨.sax, .zeroPageY, 4, .none⟩,
    ⟨.tya, .implicit, 2, .none⟩, ⟨.sta, .absoluteY, 5, .none⟩,
    ⟨.txs, .implicit, 2, .none⟩, ⟨.tas, .absoluteY, 5, .none⟩,
    ⟨.shy, .absoluteX, 5, .none⟩, ⟨.sta, .absoluteX, 5, .none⟩,
    ⟨.shx, .absoluteY, 5, .none⟩, ⟨.ahx, .absoluteY, 5, .none⟩ ]

/-- Row A_ of the opcode map (R57), with the base cycles of R58 and R61. -/
def catalogRowA : List CatalogEntry :=
  [ ⟨.ldy, .immediate, 2, .none⟩, ⟨.lda, .indirectX, 6, .none⟩,
    ⟨.ldx, .immediate, 2, .none⟩, ⟨.lax, .indirectX, 6, .none⟩,
    ⟨.ldy, .zeroPage, 3, .none⟩, ⟨.lda, .zeroPage, 3, .none⟩,
    ⟨.ldx, .zeroPage, 3, .none⟩, ⟨.lax, .zeroPage, 3, .none⟩,
    ⟨.tay, .implicit, 2, .none⟩, ⟨.lda, .immediate, 2, .none⟩,
    ⟨.tax, .implicit, 2, .none⟩, ⟨.lax, .immediate, 2, .none⟩,
    ⟨.ldy, .absolute, 4, .none⟩, ⟨.lda, .absolute, 4, .none⟩,
    ⟨.ldx, .absolute, 4, .none⟩, ⟨.lax, .absolute, 4, .none⟩ ]

/-- Row B_ of the opcode map (R57), with the base cycles of R58 and R61. -/
def catalogRowB : List CatalogEntry :=
  [ ⟨.bcs, .relative, 2, .branch⟩, ⟨.lda, .indirectY, 5, .page⟩,
    ⟨.jam, .implicit, 2, .none⟩, ⟨.lax, .indirectY, 5, .page⟩,
    ⟨.ldy, .zeroPageX, 4, .none⟩, ⟨.lda, .zeroPageX, 4, .none⟩,
    ⟨.ldx, .zeroPageY, 4, .none⟩, ⟨.lax, .zeroPageY, 4, .none⟩,
    ⟨.clv, .implicit, 2, .none⟩, ⟨.lda, .absoluteY, 4, .page⟩,
    ⟨.tsx, .implicit, 2, .none⟩, ⟨.las, .absoluteY, 4, .page⟩,
    ⟨.ldy, .absoluteX, 4, .page⟩, ⟨.lda, .absoluteX, 4, .page⟩,
    ⟨.ldx, .absoluteY, 4, .page⟩, ⟨.lax, .absoluteY, 4, .page⟩ ]

/-- Row C_ of the opcode map (R57), with the base cycles of R58 and R61. -/
def catalogRowC : List CatalogEntry :=
  [ ⟨.cpy, .immediate, 2, .none⟩, ⟨.cmp, .indirectX, 6, .none⟩,
    ⟨.nopUndoc, .immediate, 2, .none⟩, ⟨.dcp, .indirectX, 8, .none⟩,
    ⟨.cpy, .zeroPage, 3, .none⟩, ⟨.cmp, .zeroPage, 3, .none⟩,
    ⟨.dec, .zeroPage, 5, .none⟩, ⟨.dcp, .zeroPage, 5, .none⟩,
    ⟨.iny, .implicit, 2, .none⟩, ⟨.cmp, .immediate, 2, .none⟩,
    ⟨.dex, .implicit, 2, .none⟩, ⟨.axs, .immediate, 2, .none⟩,
    ⟨.cpy, .absolute, 4, .none⟩, ⟨.cmp, .absolute, 4, .none⟩,
    ⟨.dec, .absolute, 6, .none⟩, ⟨.dcp, .absolute, 6, .none⟩ ]

/-- Row D_ of the opcode map (R57), with the base cycles of R58 and R61. -/
def catalogRowD : List CatalogEntry :=
  [ ⟨.bne, .relative, 2, .branch⟩, ⟨.cmp, .indirectY, 5, .page⟩,
    ⟨.jam, .implicit, 2, .none⟩, ⟨.dcp, .indirectY, 8, .none⟩,
    ⟨.nopUndoc, .zeroPageX, 4, .none⟩, ⟨.cmp, .zeroPageX, 4, .none⟩,
    ⟨.dec, .zeroPageX, 6, .none⟩, ⟨.dcp, .zeroPageX, 6, .none⟩,
    ⟨.cld, .implicit, 2, .none⟩, ⟨.cmp, .absoluteY, 4, .page⟩,
    ⟨.nopUndoc, .implicit, 2, .none⟩, ⟨.dcp, .absoluteY, 7, .none⟩,
    ⟨.nopUndoc, .absoluteX, 4, .page⟩, ⟨.cmp, .absoluteX, 4, .page⟩,
    ⟨.dec, .absoluteX, 7, .none⟩, ⟨.dcp, .absoluteX, 7, .none⟩ ]

/-- Row E_ of the opcode map (R57), with the base cycles of R58 and R61. -/
def catalogRowE : List CatalogEntry :=
  [ ⟨.cpx, .immediate, 2, .none⟩, ⟨.sbc, .indirectX, 6, .none⟩,
    ⟨.nopUndoc, .immediate, 2, .none⟩, ⟨.isc, .indirectX, 8, .none⟩,
    ⟨.cpx, .zeroPage, 3, .none⟩, ⟨.sbc, .zeroPage, 3, .none⟩,
    ⟨.inc, .zeroPage, 5, .none⟩, ⟨.isc, .zeroPage, 5, .none⟩,
    ⟨.inx, .implicit, 2, .none⟩, ⟨.sbc, .immediate, 2, .none⟩,
    ⟨.nop, .implicit, 2, .none⟩, ⟨.sbcUndoc, .immediate, 2, .none⟩,
    ⟨.cpx, .absolute, 4, .none⟩, ⟨.sbc, .absolute, 4, .none⟩,
    ⟨.inc, .absolute, 6, .none⟩, ⟨.isc, .absolute, 6, .none⟩ ]

/-- Row F_ of the opcode map (R57), with the base cycles of R58 and R61. -/
def catalogRowF : List CatalogEntry :=
  [ ⟨.beq, .relative, 2, .branch⟩, ⟨.sbc, .indirectY, 5, .page⟩,
    ⟨.jam, .implicit, 2, .none⟩, ⟨.isc, .indirectY, 8, .none⟩,
    ⟨.nopUndoc, .zeroPageX, 4, .none⟩, ⟨.sbc, .zeroPageX, 4, .none⟩,
    ⟨.inc, .zeroPageX, 6, .none⟩, ⟨.isc, .zeroPageX, 6, .none⟩,
    ⟨.sed, .implicit, 2, .none⟩, ⟨.sbc, .absoluteY, 4, .page⟩,
    ⟨.nopUndoc, .implicit, 2, .none⟩, ⟨.isc, .absoluteY, 7, .none⟩,
    ⟨.nopUndoc, .absoluteX, 4, .page⟩, ⟨.sbc, .absoluteX, 4, .page⟩,
    ⟨.inc, .absoluteX, 7, .none⟩, ⟨.isc, .absoluteX, 7, .none⟩ ]

/-- The sixteen rows of the opcode map (R57). -/
def catalogRows : List (List CatalogEntry) :=
  [ catalogRow0, catalogRow1, catalogRow2, catalogRow3, catalogRow4, catalogRow5, catalogRow6, catalogRow7,
    catalogRow8, catalogRow9, catalogRowA, catalogRowB, catalogRowC, catalogRowD, catalogRowE, catalogRowF ]

/-- The Instruction Catalog: the entry of an opcode byte, row by the high nibble, column by the low one (R53, R57). The
default is never reached: all sixteen rows have sixteen entries. -/
def catalog (op : Byte) : CatalogEntry :=
  ((catalogRows.getD (op.toNat / 16) []).getD (op.toNat % 16) ⟨.brk, .implicit, 0, .none⟩)

/-- The number of operand bytes, from the catalog's mode alone (R51). -/
def operandCount (op : Byte) : Nat := (catalog op).mode.operandBytes

/-! ### The decoder -/

/-- The instructions of row 0_ of the opcode map (R57), by the low nibble. -/
def assembleRow0 (lo : Nat) (b1 b2 : Byte) : Instr :=
  match lo with
  | 0 => .brk
  | 1 => .oraIndX b1
  | 2 => .jam02
  | 3 => .slo03 b1
  | 4 => .nop04 b1
  | 5 => .oraZp b1
  | 6 => .aslZp b1
  | 7 => .slo07 b1
  | 8 => .php
  | 9 => .oraImm b1
  | 10 => .aslAcc
  | 11 => .anc0B b1
  | 12 => .nop0C (word b2 b1)
  | 13 => .oraAbs (word b2 b1)
  | 14 => .aslAbs (word b2 b1)
  | _ => .slo0F (word b2 b1)

/-- The instructions of row 1_ of the opcode map (R57), by the low nibble. -/
def assembleRow1 (lo : Nat) (b1 b2 : Byte) : Instr :=
  match lo with
  | 0 => .bpl b1
  | 1 => .oraIndY b1
  | 2 => .jam12
  | 3 => .slo13 b1
  | 4 => .nop14 b1
  | 5 => .oraZpX b1
  | 6 => .aslZpX b1
  | 7 => .slo17 b1
  | 8 => .clc
  | 9 => .oraAbsY (word b2 b1)
  | 10 => .nop1A
  | 11 => .slo1B (word b2 b1)
  | 12 => .nop1C (word b2 b1)
  | 13 => .oraAbsX (word b2 b1)
  | 14 => .aslAbsX (word b2 b1)
  | _ => .slo1F (word b2 b1)

/-- The instructions of row 2_ of the opcode map (R57), by the low nibble. -/
def assembleRow2 (lo : Nat) (b1 b2 : Byte) : Instr :=
  match lo with
  | 0 => .jsrAbs (word b2 b1)
  | 1 => .andIndX b1
  | 2 => .jam22
  | 3 => .rla23 b1
  | 4 => .bitZp b1
  | 5 => .andZp b1
  | 6 => .rolZp b1
  | 7 => .rla27 b1
  | 8 => .plp
  | 9 => .andImm b1
  | 10 => .rolAcc
  | 11 => .anc2B b1
  | 12 => .bitAbs (word b2 b1)
  | 13 => .andAbs (word b2 b1)
  | 14 => .rolAbs (word b2 b1)
  | _ => .rla2F (word b2 b1)

/-- The instructions of row 3_ of the opcode map (R57), by the low nibble. -/
def assembleRow3 (lo : Nat) (b1 b2 : Byte) : Instr :=
  match lo with
  | 0 => .bmi b1
  | 1 => .andIndY b1
  | 2 => .jam32
  | 3 => .rla33 b1
  | 4 => .nop34 b1
  | 5 => .andZpX b1
  | 6 => .rolZpX b1
  | 7 => .rla37 b1
  | 8 => .sec
  | 9 => .andAbsY (word b2 b1)
  | 10 => .nop3A
  | 11 => .rla3B (word b2 b1)
  | 12 => .nop3C (word b2 b1)
  | 13 => .andAbsX (word b2 b1)
  | 14 => .rolAbsX (word b2 b1)
  | _ => .rla3F (word b2 b1)

/-- The instructions of row 4_ of the opcode map (R57), by the low nibble. -/
def assembleRow4 (lo : Nat) (b1 b2 : Byte) : Instr :=
  match lo with
  | 0 => .rti
  | 1 => .eorIndX b1
  | 2 => .jam42
  | 3 => .sre43 b1
  | 4 => .nop44 b1
  | 5 => .eorZp b1
  | 6 => .lsrZp b1
  | 7 => .sre47 b1
  | 8 => .pha
  | 9 => .eorImm b1
  | 10 => .lsrAcc
  | 11 => .alr4B b1
  | 12 => .jmpAbs (word b2 b1)
  | 13 => .eorAbs (word b2 b1)
  | 14 => .lsrAbs (word b2 b1)
  | _ => .sre4F (word b2 b1)

/-- The instructions of row 5_ of the opcode map (R57), by the low nibble. -/
def assembleRow5 (lo : Nat) (b1 b2 : Byte) : Instr :=
  match lo with
  | 0 => .bvc b1
  | 1 => .eorIndY b1
  | 2 => .jam52
  | 3 => .sre53 b1
  | 4 => .nop54 b1
  | 5 => .eorZpX b1
  | 6 => .lsrZpX b1
  | 7 => .sre57 b1
  | 8 => .cli
  | 9 => .eorAbsY (word b2 b1)
  | 10 => .nop5A
  | 11 => .sre5B (word b2 b1)
  | 12 => .nop5C (word b2 b1)
  | 13 => .eorAbsX (word b2 b1)
  | 14 => .lsrAbsX (word b2 b1)
  | _ => .sre5F (word b2 b1)

/-- The instructions of row 6_ of the opcode map (R57), by the low nibble. -/
def assembleRow6 (lo : Nat) (b1 b2 : Byte) : Instr :=
  match lo with
  | 0 => .rts
  | 1 => .adcIndX b1
  | 2 => .jam62
  | 3 => .rra63 b1
  | 4 => .nop64 b1
  | 5 => .adcZp b1
  | 6 => .rorZp b1
  | 7 => .rra67 b1
  | 8 => .pla
  | 9 => .adcImm b1
  | 10 => .rorAcc
  | 11 => .arr6B b1
  | 12 => .jmpInd (word b2 b1)
  | 13 => .adcAbs (word b2 b1)
  | 14 => .rorAbs (word b2 b1)
  | _ => .rra6F (word b2 b1)

/-- The instructions of row 7_ of the opcode map (R57), by the low nibble. -/
def assembleRow7 (lo : Nat) (b1 b2 : Byte) : Instr :=
  match lo with
  | 0 => .bvs b1
  | 1 => .adcIndY b1
  | 2 => .jam72
  | 3 => .rra73 b1
  | 4 => .nop74 b1
  | 5 => .adcZpX b1
  | 6 => .rorZpX b1
  | 7 => .rra77 b1
  | 8 => .sei
  | 9 => .adcAbsY (word b2 b1)
  | 10 => .nop7A
  | 11 => .rra7B (word b2 b1)
  | 12 => .nop7C (word b2 b1)
  | 13 => .adcAbsX (word b2 b1)
  | 14 => .rorAbsX (word b2 b1)
  | _ => .rra7F (word b2 b1)

/-- The instructions of row 8_ of the opcode map (R57), by the low nibble. -/
def assembleRow8 (lo : Nat) (b1 b2 : Byte) : Instr :=
  match lo with
  | 0 => .nop80 b1
  | 1 => .staIndX b1
  | 2 => .nop82 b1
  | 3 => .sax83 b1
  | 4 => .styZp b1
  | 5 => .staZp b1
  | 6 => .stxZp b1
  | 7 => .sax87 b1
  | 8 => .dey
  | 9 => .nop89 b1
  | 10 => .txa
  | 11 => .xaa8B b1
  | 12 => .styAbs (word b2 b1)
  | 13 => .staAbs (word b2 b1)
  | 14 => .stxAbs (word b2 b1)
  | _ => .sax8F (word b2 b1)

/-- The instructions of row 9_ of the opcode map (R57), by the low nibble. -/
def assembleRow9 (lo : Nat) (b1 b2 : Byte) : Instr :=
  match lo with
  | 0 => .bcc b1
  | 1 => .staIndY b1
  | 2 => .jam92
  | 3 => .ahx93 b1
  | 4 => .styZpX b1
  | 5 => .staZpX b1
  | 6 => .stxZpY b1
  | 7 => .sax97 b1
  | 8 => .tya
  | 9 => .staAbsY (word b2 b1)
  | 10 => .txs
  | 11 => .tas9B (word b2 b1)
  | 12 => .shy9C (word b2 b1)
  | 13 => .staAbsX (word b2 b1)
  | 14 => .shx9E (word b2 b1)
  | _ => .ahx9F (word b2 b1)

/-- The instructions of row A_ of the opcode map (R57), by the low nibble. -/
def assembleRowA (lo : Nat) (b1 b2 : Byte) : Instr :=
  match lo with
  | 0 => .ldyImm b1
  | 1 => .ldaIndX b1
  | 2 => .ldxImm b1
  | 3 => .laxA3 b1
  | 4 => .ldyZp b1
  | 5 => .ldaZp b1
  | 6 => .ldxZp b1
  | 7 => .laxA7 b1
  | 8 => .tay
  | 9 => .ldaImm b1
  | 10 => .tax
  | 11 => .laxAB b1
  | 12 => .ldyAbs (word b2 b1)
  | 13 => .ldaAbs (word b2 b1)
  | 14 => .ldxAbs (word b2 b1)
  | _ => .laxAF (word b2 b1)

/-- The instructions of row B_ of the opcode map (R57), by the low nibble. -/
def assembleRowB (lo : Nat) (b1 b2 : Byte) : Instr :=
  match lo with
  | 0 => .bcs b1
  | 1 => .ldaIndY b1
  | 2 => .jamB2
  | 3 => .laxB3 b1
  | 4 => .ldyZpX b1
  | 5 => .ldaZpX b1
  | 6 => .ldxZpY b1
  | 7 => .laxB7 b1
  | 8 => .clv
  | 9 => .ldaAbsY (word b2 b1)
  | 10 => .tsx
  | 11 => .lasBB (word b2 b1)
  | 12 => .ldyAbsX (word b2 b1)
  | 13 => .ldaAbsX (word b2 b1)
  | 14 => .ldxAbsY (word b2 b1)
  | _ => .laxBF (word b2 b1)

/-- The instructions of row C_ of the opcode map (R57), by the low nibble. -/
def assembleRowC (lo : Nat) (b1 b2 : Byte) : Instr :=
  match lo with
  | 0 => .cpyImm b1
  | 1 => .cmpIndX b1
  | 2 => .nopC2 b1
  | 3 => .dcpC3 b1
  | 4 => .cpyZp b1
  | 5 => .cmpZp b1
  | 6 => .decZp b1
  | 7 => .dcpC7 b1
  | 8 => .iny
  | 9 => .cmpImm b1
  | 10 => .dex
  | 11 => .axsCB b1
  | 12 => .cpyAbs (word b2 b1)
  | 13 => .cmpAbs (word b2 b1)
  | 14 => .decAbs (word b2 b1)
  | _ => .dcpCF (word b2 b1)

/-- The instructions of row D_ of the opcode map (R57), by the low nibble. -/
def assembleRowD (lo : Nat) (b1 b2 : Byte) : Instr :=
  match lo with
  | 0 => .bne b1
  | 1 => .cmpIndY b1
  | 2 => .jamD2
  | 3 => .dcpD3 b1
  | 4 => .nopD4 b1
  | 5 => .cmpZpX b1
  | 6 => .decZpX b1
  | 7 => .dcpD7 b1
  | 8 => .cld
  | 9 => .cmpAbsY (word b2 b1)
  | 10 => .nopDA
  | 11 => .dcpDB (word b2 b1)
  | 12 => .nopDC (word b2 b1)
  | 13 => .cmpAbsX (word b2 b1)
  | 14 => .decAbsX (word b2 b1)
  | _ => .dcpDF (word b2 b1)

/-- The instructions of row E_ of the opcode map (R57), by the low nibble. -/
def assembleRowE (lo : Nat) (b1 b2 : Byte) : Instr :=
  match lo with
  | 0 => .cpxImm b1
  | 1 => .sbcIndX b1
  | 2 => .nopE2 b1
  | 3 => .iscE3 b1
  | 4 => .cpxZp b1
  | 5 => .sbcZp b1
  | 6 => .incZp b1
  | 7 => .iscE7 b1
  | 8 => .inx
  | 9 => .sbcImm b1
  | 10 => .nop
  | 11 => .sbcEB b1
  | 12 => .cpxAbs (word b2 b1)
  | 13 => .sbcAbs (word b2 b1)
  | 14 => .incAbs (word b2 b1)
  | _ => .iscEF (word b2 b1)

/-- The instructions of row F_ of the opcode map (R57), by the low nibble. -/
def assembleRowF (lo : Nat) (b1 b2 : Byte) : Instr :=
  match lo with
  | 0 => .beq b1
  | 1 => .sbcIndY b1
  | 2 => .jamF2
  | 3 => .iscF3 b1
  | 4 => .nopF4 b1
  | 5 => .sbcZpX b1
  | 6 => .incZpX b1
  | 7 => .iscF7 b1
  | 8 => .sed
  | 9 => .sbcAbsY (word b2 b1)
  | 10 => .nopFA
  | 11 => .iscFB (word b2 b1)
  | 12 => .nopFC (word b2 b1)
  | 13 => .sbcAbsX (word b2 b1)
  | 14 => .incAbsX (word b2 b1)
  | _ => .iscFF (word b2 b1)

/-- The instruction of an opcode byte and its operand bytes, `b2:b1` assembled as R52 says. A mode with fewer operand
bytes ignores the rest. -/
def assemble (op b1 b2 : Byte) : Instr :=
  match op.toNat / 16 with
  | 0 => assembleRow0 (op.toNat % 16) b1 b2
  | 1 => assembleRow1 (op.toNat % 16) b1 b2
  | 2 => assembleRow2 (op.toNat % 16) b1 b2
  | 3 => assembleRow3 (op.toNat % 16) b1 b2
  | 4 => assembleRow4 (op.toNat % 16) b1 b2
  | 5 => assembleRow5 (op.toNat % 16) b1 b2
  | 6 => assembleRow6 (op.toNat % 16) b1 b2
  | 7 => assembleRow7 (op.toNat % 16) b1 b2
  | 8 => assembleRow8 (op.toNat % 16) b1 b2
  | 9 => assembleRow9 (op.toNat % 16) b1 b2
  | 10 => assembleRowA (op.toNat % 16) b1 b2
  | 11 => assembleRowB (op.toNat % 16) b1 b2
  | 12 => assembleRowC (op.toNat % 16) b1 b2
  | 13 => assembleRowD (op.toNat % 16) b1 b2
  | 14 => assembleRowE (op.toNat % 16) b1 b2
  | _ => assembleRowF (op.toNat % 16) b1 b2

/-- Why a byte string is no instruction: it ends before the opcode, or inside the operand bytes of `opcode`. Safe: no
opcode byte is rejected (R51), and the fetch of a step always has all the bytes (R71). -/
inductive DecodeError where
  | empty
  | truncated (opcode : Byte)
  deriving DecidableEq, Repr

/-- Decode the first instruction of a byte string, lowest address first, and return the rest (R50, R51, R60). -/
def decode : List Byte → Except DecodeError (Instr × List Byte)
  | [] => .error .empty
  | op :: rest =>
    match operandCount op, rest with
    | 0, rest => .ok (assemble op 0 0, rest)
    | 1, b1 :: rest => .ok (assemble op b1 0, rest)
    | 2, b1 :: b2 :: rest => .ok (assemble op b1 b2, rest)
    | _, _ => .error (.truncated op)

/-! ### The encoder -/

/-- The opcode byte of an instruction (R54, R58). -/
def Instr.opcode : Instr → Byte
  | .oraIndX _ => 0x01
  | .oraZp _ => 0x05
  | .aslZp _ => 0x06
  | .oraImm _ => 0x09
  | .oraAbs _ => 0x0D
  | .aslAbs _ => 0x0E
  | .bpl _ => 0x10
  | .oraIndY _ => 0x11
  | .oraZpX _ => 0x15
  | .aslZpX _ => 0x16
  | .oraAbsY _ => 0x19
  | .oraAbsX _ => 0x1D
  | .aslAbsX _ => 0x1E
  | .jsrAbs _ => 0x20
  | .andIndX _ => 0x21
  | .bitZp _ => 0x24
  | .andZp _ => 0x25
  | .rolZp _ => 0x26
  | .andImm _ => 0x29
  | .bitAbs _ => 0x2C
  | .andAbs _ => 0x2D
  | .rolAbs _ => 0x2E
  | .bmi _ => 0x30
  | .andIndY _ => 0x31
  | .andZpX _ => 0x35
  | .rolZpX _ => 0x36
  | .andAbsY _ => 0x39
  | .andAbsX _ => 0x3D
  | .rolAbsX _ => 0x3E
  | .eorIndX _ => 0x41
  | .eorZp _ => 0x45
  | .lsrZp _ => 0x46
  | .eorImm _ => 0x49
  | .jmpAbs _ => 0x4C
  | .eorAbs _ => 0x4D
  | .lsrAbs _ => 0x4E
  | .bvc _ => 0x50
  | .eorIndY _ => 0x51
  | .eorZpX _ => 0x55
  | .lsrZpX _ => 0x56
  | .eorAbsY _ => 0x59
  | .eorAbsX _ => 0x5D
  | .lsrAbsX _ => 0x5E
  | .adcIndX _ => 0x61
  | .adcZp _ => 0x65
  | .rorZp _ => 0x66
  | .adcImm _ => 0x69
  | .jmpInd _ => 0x6C
  | .adcAbs _ => 0x6D
  | .rorAbs _ => 0x6E
  | .bvs _ => 0x70
  | .adcIndY _ => 0x71
  | .adcZpX _ => 0x75
  | .rorZpX _ => 0x76
  | .adcAbsY _ => 0x79
  | .adcAbsX _ => 0x7D
  | .rorAbsX _ => 0x7E
  | .staIndX _ => 0x81
  | .styZp _ => 0x84
  | .staZp _ => 0x85
  | .stxZp _ => 0x86
  | .styAbs _ => 0x8C
  | .staAbs _ => 0x8D
  | .stxAbs _ => 0x8E
  | .bcc _ => 0x90
  | .staIndY _ => 0x91
  | .styZpX _ => 0x94
  | .staZpX _ => 0x95
  | .stxZpY _ => 0x96
  | .staAbsY _ => 0x99
  | .staAbsX _ => 0x9D
  | .ldyImm _ => 0xA0
  | .ldaIndX _ => 0xA1
  | .ldxImm _ => 0xA2
  | .ldyZp _ => 0xA4
  | .ldaZp _ => 0xA5
  | .ldxZp _ => 0xA6
  | .ldaImm _ => 0xA9
  | .ldyAbs _ => 0xAC
  | .ldaAbs _ => 0xAD
  | .ldxAbs _ => 0xAE
  | .bcs _ => 0xB0
  | .ldaIndY _ => 0xB1
  | .ldyZpX _ => 0xB4
  | .ldaZpX _ => 0xB5
  | .ldxZpY _ => 0xB6
  | .ldaAbsY _ => 0xB9
  | .ldyAbsX _ => 0xBC
  | .ldaAbsX _ => 0xBD
  | .ldxAbsY _ => 0xBE
  | .cpyImm _ => 0xC0
  | .cmpIndX _ => 0xC1
  | .cpyZp _ => 0xC4
  | .cmpZp _ => 0xC5
  | .decZp _ => 0xC6
  | .cmpImm _ => 0xC9
  | .cpyAbs _ => 0xCC
  | .cmpAbs _ => 0xCD
  | .decAbs _ => 0xCE
  | .bne _ => 0xD0
  | .cmpIndY _ => 0xD1
  | .cmpZpX _ => 0xD5
  | .decZpX _ => 0xD6
  | .cmpAbsY _ => 0xD9
  | .cmpAbsX _ => 0xDD
  | .decAbsX _ => 0xDE
  | .cpxImm _ => 0xE0
  | .sbcIndX _ => 0xE1
  | .cpxZp _ => 0xE4
  | .sbcZp _ => 0xE5
  | .incZp _ => 0xE6
  | .sbcImm _ => 0xE9
  | .cpxAbs _ => 0xEC
  | .sbcAbs _ => 0xED
  | .incAbs _ => 0xEE
  | .beq _ => 0xF0
  | .sbcIndY _ => 0xF1
  | .sbcZpX _ => 0xF5
  | .incZpX _ => 0xF6
  | .sbcAbsY _ => 0xF9
  | .sbcAbsX _ => 0xFD
  | .incAbsX _ => 0xFE
  | .slo03 _ => 0x03
  | .nop04 _ => 0x04
  | .slo07 _ => 0x07
  | .anc0B _ => 0x0B
  | .nop0C _ => 0x0C
  | .slo0F _ => 0x0F
  | .slo13 _ => 0x13
  | .nop14 _ => 0x14
  | .slo17 _ => 0x17
  | .slo1B _ => 0x1B
  | .nop1C _ => 0x1C
  | .slo1F _ => 0x1F
  | .rla23 _ => 0x23
  | .rla27 _ => 0x27
  | .anc2B _ => 0x2B
  | .rla2F _ => 0x2F
  | .rla33 _ => 0x33
  | .nop34 _ => 0x34
  | .rla37 _ => 0x37
  | .rla3B _ => 0x3B
  | .nop3C _ => 0x3C
  | .rla3F _ => 0x3F
  | .sre43 _ => 0x43
  | .nop44 _ => 0x44
  | .sre47 _ => 0x47
  | .alr4B _ => 0x4B
  | .sre4F _ => 0x4F
  | .sre53 _ => 0x53
  | .nop54 _ => 0x54
  | .sre57 _ => 0x57
  | .sre5B _ => 0x5B
  | .nop5C _ => 0x5C
  | .sre5F _ => 0x5F
  | .rra63 _ => 0x63
  | .nop64 _ => 0x64
  | .rra67 _ => 0x67
  | .arr6B _ => 0x6B
  | .rra6F _ => 0x6F
  | .rra73 _ => 0x73
  | .nop74 _ => 0x74
  | .rra77 _ => 0x77
  | .rra7B _ => 0x7B
  | .nop7C _ => 0x7C
  | .rra7F _ => 0x7F
  | .nop80 _ => 0x80
  | .nop82 _ => 0x82
  | .sax83 _ => 0x83
  | .sax87 _ => 0x87
  | .nop89 _ => 0x89
  | .xaa8B _ => 0x8B
  | .sax8F _ => 0x8F
  | .ahx93 _ => 0x93
  | .sax97 _ => 0x97
  | .tas9B _ => 0x9B
  | .shy9C _ => 0x9C
  | .shx9E _ => 0x9E
  | .ahx9F _ => 0x9F
  | .laxA3 _ => 0xA3
  | .laxA7 _ => 0xA7
  | .laxAB _ => 0xAB
  | .laxAF _ => 0xAF
  | .laxB3 _ => 0xB3
  | .laxB7 _ => 0xB7
  | .lasBB _ => 0xBB
  | .laxBF _ => 0xBF
  | .nopC2 _ => 0xC2
  | .dcpC3 _ => 0xC3
  | .dcpC7 _ => 0xC7
  | .axsCB _ => 0xCB
  | .dcpCF _ => 0xCF
  | .dcpD3 _ => 0xD3
  | .nopD4 _ => 0xD4
  | .dcpD7 _ => 0xD7
  | .dcpDB _ => 0xDB
  | .nopDC _ => 0xDC
  | .dcpDF _ => 0xDF
  | .nopE2 _ => 0xE2
  | .iscE3 _ => 0xE3
  | .iscE7 _ => 0xE7
  | .sbcEB _ => 0xEB
  | .iscEF _ => 0xEF
  | .iscF3 _ => 0xF3
  | .nopF4 _ => 0xF4
  | .iscF7 _ => 0xF7
  | .iscFB _ => 0xFB
  | .nopFC _ => 0xFC
  | .iscFF _ => 0xFF
  | .brk => 0x00
  | .php => 0x08
  | .aslAcc => 0x0A
  | .clc => 0x18
  | .plp => 0x28
  | .rolAcc => 0x2A
  | .sec => 0x38
  | .rti => 0x40
  | .pha => 0x48
  | .lsrAcc => 0x4A
  | .cli => 0x58
  | .rts => 0x60
  | .pla => 0x68
  | .rorAcc => 0x6A
  | .sei => 0x78
  | .dey => 0x88
  | .txa => 0x8A
  | .tya => 0x98
  | .txs => 0x9A
  | .tay => 0xA8
  | .tax => 0xAA
  | .clv => 0xB8
  | .tsx => 0xBA
  | .iny => 0xC8
  | .dex => 0xCA
  | .cld => 0xD8
  | .inx => 0xE8
  | .nop => 0xEA
  | .sed => 0xF8
  | .jam02 => 0x02
  | .jam12 => 0x12
  | .nop1A => 0x1A
  | .jam22 => 0x22
  | .jam32 => 0x32
  | .nop3A => 0x3A
  | .jam42 => 0x42
  | .jam52 => 0x52
  | .nop5A => 0x5A
  | .jam62 => 0x62
  | .jam72 => 0x72
  | .nop7A => 0x7A
  | .jam92 => 0x92
  | .jamB2 => 0xB2
  | .jamD2 => 0xD2
  | .nopDA => 0xDA
  | .jamF2 => 0xF2
  | .nopFA => 0xFA

/-- The operand bytes in address order: a datum, an offset, a zero-page address, or a 16-bit value low byte first
(R40, R50). -/
def MemOperand.bytes : MemOperand → List Byte
  | .zeroPage z | .zeroPageX z | .zeroPageY z | .indirectX z | .indirectY z => [z]
  | .absolute a | .absoluteX a | .absoluteY a | .indirect a => [loByte a, hiByte a]

/-- The operand bytes in address order (R40, R50). -/
def Operand.bytes : Operand → List Byte
  | .implicit | .accumulator => []
  | .immediate v => [v]
  | .relative off => [off]
  | .memory m => m.bytes

/-- The bytes of an instruction, lowest address first (R50). -/
def encode (i : Instr) : List Byte := i.opcode :: i.operand.bytes

/-! ### The table's numbering of an instruction's bits -/

/-- The three bytes at consecutive addresses that hold the instruction whose bits are `w`, bit 0 the least significant
bit of the first byte; every bit from `nbits` up is 0. -/
def tableBytes (nbits w : Nat) : List Byte :=
  let v := w % 2 ^ nbits
  [BitVec.ofNat 8 v, BitVec.ofNat 8 (v / 256), BitVec.ofNat 8 (v / 65536)]

/-- The instruction this decoder reads from the table's bits. -/
def decodeTableWord (nbits w : Nat) : Option Instr :=
  match decode (tableBytes nbits w) with
  | .ok (i, _) => some i
  | .error _ => none

end Sys2Proof
end

