-- ==== Sys2Proof/Machine/State.lean ====
section
/-! DEFINITION. The machine's state (10_state.md R10), what a step reports (60_exceptions.md R170), the reasons a step can
stop, the state after reset (R24), and the named updates of the state. -/

namespace Sys2Proof.Machine

/-- The kind of a bus transaction (20_memory.md R30). -/
inductive AccessKind where
  | read
  | write
  deriving DecidableEq, Repr

/-- The outcome of a step (R170): completed, completed as a no-op with the diagnostic of the undocumented opcode `op`
fetched from `start`, or cut short by a bus fault at the raw address `addr`. -/
inductive Report where
  | done
  | doneDiag (op : Byte) (start : Addr)
  | busFault (addr : Addr) (kind : AccessKind)
  deriving DecidableEq, Repr

/-- The code of an outcome (R170). -/
def Report.code : Report → Nat
  | .done => 0
  | .doneDiag _ _ => 1
  | .busFault _ _ => 2

/-- One transaction on the bus port, with its raw address (R30, R31): a read and the byte it returned, a write and its
byte, or one of either that raised BusFault (a faulting read returns no byte, R171). -/
inductive Transaction where
  | read (addr : Addr) (value : Byte)
  | write (addr : Addr) (value : Byte)
  | readFault (addr : Addr)
  | writeFault (addr : Addr) (value : Byte)
  deriving DecidableEq, Repr

/-- The six status flags (R10, R16). The two convention bits of P are not storage (R17). -/
structure Flags where
  c : Bool
  z : Bool
  i : Bool
  d : Bool
  v : Bool
  n : Bool
  deriving DecidableEq, Repr

/-- The storage cells: address and byte, addresses rising, and no byte equal to `Config.launchByte`, which is what an
unlisted cell holds (R22, log 1). -/
abbrev Memory := List Host.Cell

/-- The state. The first six fields are the register file, "the whole architectural state of the core" (R10); `mem` and
`platform` are behind its bus port (20_memory.md, R5); the last four are the model's own (log 3, log 5): what a step
exposes (R6), the record R175 advises, and what the device handlers have seen (R36). -/
structure State where
  a : Byte
  x : Byte
  y : Byte
  sp : Byte
  pc : Addr
  flags : Flags
  mem : Memory
  platform : Platform
  trace : List Transaction
  outcome : Report
  record : List Report
  deviceLog : List DeviceEvent
  deriving DecidableEq, Repr

/-- Why a step stops. -/
inductive Fault where
  /-- Raised by every bus access, in any instruction and in the fetch, that falls in a reserved window without handler
  (20_memory.md R36, 60_exceptions.md R171). `left` is the state the step leaves: earlier writes stay, PC still holds
  `start`, nothing is rolled back. Safe: no run goes on from it unless the driver steps `left` (log 4). -/
  | busFault (addr : Addr) (kind : AccessKind) (left : State)
  deriving DecidableEq, Repr

/-- The state that the step cut short by the fault leaves for the driver (R171). -/
def Fault.left : Fault → State
  | .busFault _ _ t => t

/-- Why an instruction is refused. -/
inductive Refusal where
  /-- Raised only by an arm of `exec` for an instruction that has no meaning yet; no arm of this model does. Safe. -/
  | notModelled (mnemonic : String)
  deriving DecidableEq, Repr

/-! ### Named updates: one per field a step writes -/

namespace State

/-- Write A. -/
def setA (s : State) (v : Byte) : State := { s with a := v }
/-- Write X. -/
def setX (s : State) (v : Byte) : State := { s with x := v }
/-- Write Y. -/
def setY (s : State) (v : Byte) : State := { s with y := v }
/-- Write S. -/
def setSp (s : State) (v : Byte) : State := { s with sp := v }
/-- Write PC. -/
def setPc (s : State) (t : Addr) : State := { s with pc := t }
/-- Write the six flags. -/
def setFlags (s : State) (f : Flags) : State := { s with flags := f }
/-- Write the storage cells. -/
def setMem (s : State) (m : Memory) : State := { s with mem := m }
/-- Append a bus transaction (R44: in the order issued). -/
def log (s : State) (t : Transaction) : State := { s with trace := s.trace ++ [t] }
/-- Append an access handed to a device handler (R36). -/
def tell (s : State) (e : DeviceEvent) : State := { s with deviceLog := s.deviceLog ++ [e] }
/-- Make `r` the outcome of the step, and record it (R170, R175). -/
def report (s : State) (r : Report) : State := { s with outcome := r, record := s.record ++ [r] }
/-- A step begins: no transaction issued yet, and outcome Done unless the step reports another (R170). -/
def beginStep (s : State) : State := { s with trace := [], outcome := .done }

/-- The state right after reset (R24, R190), on the platform of log 2 and with nothing listed in memory (log 1): the
reset vector then holds 0x0000. The two vector reads are the transactions of a reset (R190, log 17). -/
def reset : State :=
  { a := 0x00
    x := 0x00
    y := 0x00
    sp := Config.resetS
    pc := word Config.launchByte Config.launchByte
    flags := { c := false, z := false, i := true, d := false, v := false, n := false }
    mem := []
    platform := Config.defaultPlatform
    trace := [.read Config.resetVector Config.launchByte, .read (Config.resetVector + 1) Config.launchByte]
    outcome := .done
    record := []
    deviceLog := [] }

end State

end Sys2Proof.Machine
end

