-- ==== Sys2Proof/Machine/Flags.lean ====
section
/-! DEFINITION. The status byte (10_state.md R16 to R18) and every flag computation of the instruction rules. -/

namespace Sys2Proof.Machine

namespace Flags

/-- `SetNZ(v)`: `N <- v[7]; Z <- (v == 0)` (R16). -/
def setNZ (f : Flags) (v : Byte) : Flags := { f with n := v.getLsbD 7, z := v == 0 }

/-- `Pbyte(b4) = N:V:1:b4:D:I:Z:C` (R17). -/
def pByte (f : Flags) (b4 : Bool) : Byte :=
  BitVec.ofBool f.n ++ BitVec.ofBool f.v ++ 1#1 ++ BitVec.ofBool b4 ++ BitVec.ofBool f.d ++ BitVec.ofBool f.i ++
    BitVec.ofBool f.z ++ BitVec.ofBool f.c

/-- `SetP(v)`: all six flags from the byte, bits 4 and 5 dropped (R18). -/
def ofByte (v : Byte) : Flags :=
  { c := v.getLsbD 0, z := v.getLsbD 1, i := v.getLsbD 2, d := v.getLsbD 3, v := v.getLsbD 6, n := v.getLsbD 7 }

end Flags

/-! ### Add with carry (41_arithmetic_compare.md R90, R91) -/

/-- `zext_9(A) + zext_9(m) + zext_9(C)`, 9 bits. -/
def sum9 (a m : Byte) (c : Bool) : BitVec 9 :=
  a.setWidth 9 + m.setWidth 9 + (BitVec.ofBool c).setWidth 9

/-- `sum[7:0]`. -/
def addValue (a m : Byte) (c : Bool) : Byte := (sum9 a m c).setWidth 8

/-- C, V, N and Z after adding `m` to `a` with the carry of `f`: `C <- sum[8]`, `V <- (~(A ^ m) & (A ^ r))[7]`,
`SetNZ(r)` (R90). -/
def addFlags (a m : Byte) (f : Flags) : Flags :=
  let r := addValue a m f.c
  { f with c := (sum9 a m f.c).getLsbD 8, v := (~~~(a ^^^ m) &&& (a ^^^ r)).getLsbD 7 }.setNZ r

/-! ### Compare and bit test (R92 to R94, 42_logic_shift_rotate.md R103) -/

/-- C, Z and N after comparing the register value `r` with `m` (R92). -/
def compareFlags (r m : Byte) (f : Flags) : Flags :=
  { f with c := m.ule r, z := r == m, n := (r - m).getLsbD 7 }

/-- Z, N and V after testing `m` against A (R103). -/
def bitFlags (a m : Byte) (f : Flags) : Flags :=
  { f with z := (a &&& m) == 0, n := m.getLsbD 7, v := m.getLsbD 6 }

/-! ### Shifts, rotates, increment, decrement (R104 to R107, R110, R111)

`m` is the byte read, `c` the Carry before, `r` the byte written. -/

/-- `(m << 1)[7:0]` (R104). -/
def aslValue (m : Byte) (_c : Bool) : Byte := m <<< 1
/-- `m >> 1` (R105). -/
def lsrValue (m : Byte) (_c : Bool) : Byte := m >>> 1
/-- `((m << 1) | zext_8(C))[7:0]` (R106). -/
def rolValue (m : Byte) (c : Bool) : Byte := (m <<< 1) ||| (BitVec.ofBool c).setWidth 8
/-- `(m >> 1) | (zext_8(C) << 7)` (R107). -/
def rorValue (m : Byte) (c : Bool) : Byte := (m >>> 1) ||| ((BitVec.ofBool c).setWidth 8 <<< 7)
/-- `(m + 1) mod 256` (R110). -/
def incValue (m : Byte) (_c : Bool) : Byte := m + 1
/-- `(m - 1) mod 256` (R111). -/
def decValue (m : Byte) (_c : Bool) : Byte := m - 1

/-- After a shift or rotate left: `C <- m[7]`, `SetNZ(r)` (R104, R106). -/
def leftFlags (m r : Byte) (f : Flags) : Flags := { f with c := m.getLsbD 7 }.setNZ r
/-- After a shift or rotate right: `C <- m[0]`, `SetNZ(r)` (R105, R107). -/
def rightFlags (m r : Byte) (f : Flags) : Flags := { f with c := m.getLsbD 0 }.setNZ r
/-- After an increment or decrement of memory: `SetNZ(r)` alone, never Carry (R110, R111). -/
def stepFlags (_m r : Byte) (f : Flags) : Flags := f.setNZ r

end Sys2Proof.Machine
end

