-- ==== Sys2Proof/Machine/Ops.lean ====
section
/-! DEFINITION. The named operations over memory and registers: the storage cells (20_memory.md R33 to R35), the
translation behind the bus port (R32 to R36), `MemRead` and `MemWrite` (R31), `Push` and `Pull` (40_addressing.md R87,
R88), the write of PC that ends a step (R89), and taking the software trap and returning from it (60_exceptions.md R177,
R178).

An operation that may access the bus answers `Except Fault`: the fault carries the state the step leaves, so what was
committed before it stays (R171). -/

namespace Sys2Proof.Machine

/-! ### Storage cells -/

namespace Memory

/-- The canonical form: addresses strictly rising, below 65536 (R22), and no entry equal to what an unlisted cell
holds. -/
abbrev wf (m : Memory) : Prop :=
  m.Pairwise (fun p q => p.1 < q.1) ∧ ∀ c ∈ m, c.1 < 65536 ∧ c.2 ≠ Config.launchByte

/-- The byte of cell `n`. -/
def read : Memory → Nat → Byte
  | [], _ => Config.launchByte
  | (k, b) :: m, n => if k = n then b else read m n

/-- The list without cell `n`. -/
def erase (m : Memory) (n : Nat) : Memory := m.filter (fun c => c.1 != n)

/-- The list with an entry for cell `n` in its place by address. -/
def insert : Memory → Nat → Byte → Memory
  | [], n, v => [(n, v)]
  | (k, b) :: m, n, v => if n < k then (n, v) :: (k, b) :: m else (k, b) :: insert m n v

/-- Store a byte in cell `n`, keeping the canonical form. -/
def write (m : Memory) (n : Nat) (v : Byte) : Memory :=
  if v = Config.launchByte then m.erase n else (m.erase n).insert n v

end Memory

/-! ### Translation -/

/-- Where a raw address leads (R32): a storage cell, the handler of a reserved window at an offset, or nowhere. -/
inductive Place where
  | cell (n : Nat)
  | device (window : WindowId) (offset : Nat)
  | nowhere
  deriving DecidableEq, Repr

/-- Whether a range holds a raw address. -/
def inRange (r : AddrRange) (a : Nat) : Bool := r.first ≤ a && a ≤ r.last

/-- The lowest address of RSV1 (R37): of its single address and its range, where the range is not empty. -/
def rsv1Base (w : ReservedOne) : Nat :=
  if w.range.first ≤ w.range.last then min w.single w.range.first else w.single

/-- RSV1 at a raw address: its handler, or nowhere (R36); `none` where the address is not in the window. -/
def placeInRsv1 (p : Platform) (a : Nat) : Option Place :=
  match p.rsv1 with
  | none => none
  | some w =>
    if a == w.single || inRange w.range a then
      some (if w.handled then .device .rsv1 (a - rsv1Base w) else .nowhere)
    else none

/-- RSV2 at a raw address (R36). -/
def placeInRsv2 (p : Platform) (a : Nat) : Option Place :=
  match p.rsv2 with
  | none => none
  | some w =>
    if inRange w.range a then some (if w.handled then .device .rsv2 (a - w.range.first) else .nowhere) else none

/-- The RAM window at a raw address: `Cell(RAM_BASE + ((a - RAM_BASE) mod RAM_SIZE))` (R33). -/
def placeInRam (p : Platform) (a : Nat) : Option Place :=
  match p.ram with
  | none => none
  | some w =>
    if w.base ≤ a && a < w.base + (1 + Config.ramMirrors) * w.size then
      some (.cell (w.base + (a - w.base) % w.size))
    else none

/-- The device-register window at a raw address: `Cell(DEV_BASE + ((a - DEV_BASE) mod DEV_SIZE))` (R34). -/
def placeInDev (p : Platform) (a : Nat) : Option Place :=
  match p.dev with
  | none => none
  | some w =>
    if w.base ≤ a && a ≤ w.windowEnd then some (.cell (w.base + (a - w.base) % Config.devSize)) else none

/-- The translation: a function of the platform's parameters and the raw address alone (R32). A reserved window wins
over an overlap (R36); an address outside every window is its own cell (R35). -/
def translateAddr (p : Platform) (addr : Addr) : Place :=
  match placeInRsv1 p addr.toNat with
  | some place => place
  | none =>
    match placeInRsv2 p addr.toNat with
    | some place => place
    | none =>
      match placeInRam p addr.toNat with
      | some place => place
      | none =>
        match placeInDev p addr.toNat with
        | some place => place
        | none => .cell addr.toNat

/-! ### Bus transactions -/

/-- `raise BusFault(addr, Read)` (R171). -/
def raiseRead (addr : Addr) (s : State) : Fault :=
  .busFault addr .read ((s.log (.readFault addr)).report (.busFault addr .read))

/-- `raise BusFault(addr, Write)` (R171). -/
def raiseWrite (addr : Addr) (v : Byte) (s : State) : Fault :=
  .busFault addr .write ((s.log (.writeFault addr v)).report (.busFault addr .write))

/-- `MemRead(addr, 1)` (R31): the byte of the cell; or the byte the attached handler answers, a free value (R37,
log 3); or BusFault (R36). -/
def memRead (addr : Addr) (s : State) : Except Fault (Byte × State) :=
  match translateAddr s.platform addr with
  | .cell n => .ok (s.mem.read n, s.log (.read addr (s.mem.read n)))
  | .device w off =>
    let v := Config.handlerRead w off s.deviceLog
    .ok (v, (s.log (.read addr v)).tell (.read w off v))
  | .nowhere => .error (raiseRead addr s)

/-- `MemWrite(addr, 1, v)` (R31): into the cell; or handed to the attached handler (R36); or BusFault. -/
def memWrite (addr : Addr) (v : Byte) (s : State) : Except Fault State :=
  match translateAddr s.platform addr with
  | .cell n => .ok ((s.log (.write addr v)).setMem (s.mem.write n v))
  | .device w off => .ok ((s.log (.write addr v)).tell (.write w off v))
  | .nowhere => .error (raiseWrite addr v s)

/-! ### The stack controller -/

/-- `STACK_PAGE:S` (R14). -/
def stackAddr (sp : Byte) : Addr := word Config.stackPage sp

/-- `Push(v)`: write at `STACK_PAGE:S`, then decrement S modulo 256 (R87). -/
def push (v : Byte) (s : State) : Except Fault State := do
  let s ← memWrite (stackAddr s.sp) v s
  return s.setSp (s.sp - 1)

/-- `Pull()`: increment S modulo 256, then read at `STACK_PAGE:S` (R88). -/
def pull (s : State) : Except Fault (Byte × State) :=
  memRead (stackAddr (s.sp + 1)) (s.setSp (s.sp + 1))

/-- Push a 16-bit value, high byte first (R40). -/
def pushWord (v : Addr) (s : State) : Except Fault State := do
  let s ← push (hiByte v) s
  push (loByte v) s

/-- Pull a 16-bit value, low byte first (R40). -/
def pullWord (s : State) : Except Fault (Addr × State) := do
  let (lo, s) ← pull s
  let (hi, s) ← pull s
  return (word hi lo, s)

/-- Read a vector: the low byte at `vector`, then the high byte after it (R40). -/
def readVector (vector : Addr) (s : State) : Except Fault (Addr × State) := do
  let (lo, s) ← memRead vector s
  let (hi, s) ← memRead (vector + 1) s
  return (word hi lo, s)

/-! ### The program counter -/

/-- `next = (start + 1 + n) mod 2^16` for an instruction of `n` operand bytes (R89). PC still holds `start`. -/
def nextPc (n : Nat) (s : State) : Addr := s.pc + 1 + BitVec.ofNat 16 n

/-- `pc <- next`, the default end of a step (R89). -/
def next (n : Nat) (s : State) : State := s.setPc (nextPc n s)

/-- What an instruction's rule computed, as the outcome of its step. -/
def finish : Except Fault State → Host.Outcome State Fault Refusal
  | .ok t => .next t
  | .error f => .fault f

/-! ### Taking the software trap and returning from it -/

/-- Trap entry (R177, 45_stack_flags_system.md R156): push the return address high byte first, then the status byte
with bit 4 = `b4`; set I after that push; PC from the vector. -/
def takeTrap (ret vector : Addr) (b4 : Bool) (s : State) : Except Fault State := do
  let s ← pushWord ret s
  let s ← push (s.flags.pByte b4) s
  let s := s.setFlags { s.flags with i := true }
  let (t, s) ← readVector vector s
  return s.setPc t

/-- Return from trap (R178, R157): the six flags from the pulled byte, then PC, low byte first, nothing added. -/
def returnFromTrap (s : State) : Except Fault State := do
  let (v, s) ← pull s
  let s := s.setFlags (Flags.ofByte v)
  let (t, s) ← pullWord s
  return s.setPc t

end Sys2Proof.Machine
end

