-- ==== Sys2Proof/Machine/Operands.lean ====
section
/-! DEFINITION. The addressing-mode resolver (40_addressing.md R72 to R85) and reading and writing a location (R86). -/

namespace Sys2Proof.Machine

/-- What the resolver finds for a memory operand: the raw address, and for timing only whether indexing carried into its
high byte (R72). -/
structure EffAddr where
  addr : Addr
  cross : Bool
  deriving DecidableEq, Repr

/-- The three cases of a location (R72). -/
inductive Loc where
  | acc
  | imm (v : Byte)
  | mem (addr : Addr)
  deriving DecidableEq, Repr

/-- The resolver's result: the location and the page-cross bit (R72). -/
structure Resolved where
  loc : Loc
  cross : Bool
  deriving DecidableEq, Repr

/-- An address of the zero page, "no carry into page 1" (R77). -/
def zeroPageAddr (z : Byte) : Addr := z.setWidth 16

/-- `(base + zext_16(index)) mod 2^16`, and whether the low byte of the sum carried (R81, R82, R85). -/
def indexed (base : Addr) (index : Byte) : EffAddr :=
  { addr := base + index.setWidth 16
    cross := 256 ≤ (loByte base).toNat + index.toNat }

/-- Read a zero-page pointer: low byte at `z`, high byte at `(z + 1) mod 256`, both in page 0 (R84, R85). -/
def readZeroPagePointer (z : Byte) (s : State) : Except Fault (Addr × State) := do
  let (lo, s) ← memRead (zeroPageAddr z) s
  let (hi, s) ← memRead (zeroPageAddr (z + 1)) s
  return (word hi lo, s)

/-- The effective address of a memory operand, with the pointer reads of the mode (R77 to R85). -/
def effAddr : MemOperand → State → Except Fault (EffAddr × State)
  | .zeroPage z, s => .ok (⟨zeroPageAddr z, false⟩, s)
  | .zeroPageX z, s => .ok (⟨zeroPageAddr (z + s.x), false⟩, s)
  | .zeroPageY z, s => .ok (⟨zeroPageAddr (z + s.y), false⟩, s)
  | .absolute addr, s => .ok (⟨addr, false⟩, s)
  | .absoluteX addr, s => .ok (indexed addr s.x, s)
  | .absoluteY addr, s => .ok (indexed addr s.y, s)
  | .indirect p, s => do
    let (lo, s) ← memRead p s
    let (hi, s) ← memRead (word (hiByte p) (loByte p + 1)) s
    return (⟨word hi lo, false⟩, s)
  | .indirectX z, s => do
    let (t, s) ← readZeroPagePointer (z + s.x) s
    return (⟨t, false⟩, s)
  | .indirectY z, s => do
    let (t, s) ← readZeroPagePointer z s
    return (indexed t s.y, s)

/-- `Resolve(mode, b1, b2, X, Y)` (R70): Implicit and Accumulator give A (R73, R74), Immediate and Relative the operand
byte itself (R75, R76), the other modes a memory cell. -/
def resolve : Operand → State → Except Fault (Resolved × State)
  | .implicit, s => .ok (⟨.acc, false⟩, s)
  | .accumulator, s => .ok (⟨.acc, false⟩, s)
  | .immediate v, s => .ok (⟨.imm v, false⟩, s)
  | .relative off, s => .ok (⟨.imm off, false⟩, s)
  | .memory m, s => do
    let (e, s) ← effAddr m s
    return (⟨.mem e.addr, e.cross⟩, s)

/-- `Load(loc)` (R86). -/
def load : Loc → State → Except Fault (Byte × State)
  | .acc, s => .ok (s.a, s)
  | .imm v, s => .ok (v, s)
  | .mem addr, s => memRead addr s

/-- `Store(loc, v)` (R86). No instruction stores to an operand byte (R75), so the case `imm` writes nothing and is never
reached (Laws/Operands.lean, `modify_never_immediate`; log 12). -/
def store : Loc → Byte → State → Except Fault State
  | .acc, v, s => .ok (s.setA v)
  | .imm _, _, s => .ok s
  | .mem addr, v, s => memWrite addr v s

/-- Phase 3 and the first statement of a reading instruction: resolve, then `m = Load(loc)`. -/
def readOperand (o : Operand) (s : State) : Except Fault (Byte × State) := do
  let (r, s) ← resolve o s
  load r.loc s

/-- The consumed operand bytes of an operand: those of its mode (R51, R72). -/
def operandSize (o : Operand) : Nat := o.mode.operandBytes

end Sys2Proof.Machine
end

