-- ==== Sys2Proof/Machine/Arithmetic.lean ====
section
/-! DEFINITION. Arithmetic and compare (41_arithmetic_compare.md R90 to R96). -/

namespace Sys2Proof.Machine

/-! ### Shared meanings, one per mnemonic -/

/-- ADC (R90): `m = Load(loc)`; A, C, V, N, Z from `A + m + C`; D is not read (R19). -/
def opAdc (o : Operand) (s : State) : Except Fault State := do
  let (m, s) ← readOperand o s
  let s := (s.setA (addValue s.a m s.flags.c)).setFlags (addFlags s.a m s.flags)
  return next (operandSize o) s

/-- SBC (R91): ADC of the one's complement of the operand. -/
def opSbc (o : Operand) (s : State) : Except Fault State := do
  let (m, s) ← readOperand o s
  let s := (s.setA (addValue s.a (~~~m) s.flags.c)).setFlags (addFlags s.a (~~~m) s.flags)
  return next (operandSize o) s

/-- The common rule of the compares (R92 to R94): C, Z, N from `reg - m`; nothing else changes. -/
def opCompare (reg : State → Byte) (o : Operand) (s : State) : Except Fault State := do
  let (m, s) ← readOperand o s
  return next (operandSize o) (s.setFlags (compareFlags (reg s) m s.flags))

/-- CMP (R92). -/
def opCmp (o : Operand) (s : State) : Except Fault State := opCompare (·.a) o s
/-- CPX (R93). -/
def opCpx (o : Operand) (s : State) : Except Fault State := opCompare (·.x) o s
/-- CPY (R94). -/
def opCpy (o : Operand) (s : State) : Except Fault State := opCompare (·.y) o s

/-! ### Meanings, one per opcode -/

/-- ADC IndirectX, opcode 61 (R90). -/
def execAdcIndX (z : Byte) (s : State) : Host.Outcome State Fault Refusal :=
  finish (opAdc (.memory (.indirectX z)) s)

/-- ADC ZeroPage, opcode 65 (R90). -/
def execAdcZp (z : Byte) (s : State) : Host.Outcome State Fault Refusal :=
  finish (opAdc (.memory (.zeroPage z)) s)

/-- ADC Immediate, opcode 69 (R90). -/
def execAdcImm (v : Byte) (s : State) : Host.Outcome State Fault Refusal :=
  finish (opAdc (.immediate v) s)

/-- ADC Absolute, opcode 6D (R90). -/
def execAdcAbs (addr : Addr) (s : State) : Host.Outcome State Fault Refusal :=
  finish (opAdc (.memory (.absolute addr)) s)

/-- ADC IndirectY, opcode 71 (R90). -/
def execAdcIndY (z : Byte) (s : State) : Host.Outcome State Fault Refusal :=
  finish (opAdc (.memory (.indirectY z)) s)

/-- ADC ZeroPageX, opcode 75 (R90). -/
def execAdcZpX (z : Byte) (s : State) : Host.Outcome State Fault Refusal :=
  finish (opAdc (.memory (.zeroPageX z)) s)

/-- ADC AbsoluteY, opcode 79 (R90). -/
def execAdcAbsY (addr : Addr) (s : State) : Host.Outcome State Fault Refusal :=
  finish (opAdc (.memory (.absoluteY addr)) s)

/-- ADC AbsoluteX, opcode 7D (R90). -/
def execAdcAbsX (addr : Addr) (s : State) : Host.Outcome State Fault Refusal :=
  finish (opAdc (.memory (.absoluteX addr)) s)

/-- SBC IndirectX, opcode E1 (R91). -/
def execSbcIndX (z : Byte) (s : State) : Host.Outcome State Fault Refusal :=
  finish (opSbc (.memory (.indirectX z)) s)

/-- SBC ZeroPage, opcode E5 (R91). -/
def execSbcZp (z : Byte) (s : State) : Host.Outcome State Fault Refusal :=
  finish (opSbc (.memory (.zeroPage z)) s)

/-- SBC Immediate, opcode E9 (R91). -/
def execSbcImm (v : Byte) (s : State) : Host.Outcome State Fault Refusal :=
  finish (opSbc (.immediate v) s)

/-- SBC Absolute, opcode ED (R91). -/
def execSbcAbs (addr : Addr) (s : State) : Host.Outcome State Fault Refusal :=
  finish (opSbc (.memory (.absolute addr)) s)

/-- SBC IndirectY, opcode F1 (R91). -/
def execSbcIndY (z : Byte) (s : State) : Host.Outcome State Fault Refusal :=
  finish (opSbc (.memory (.indirectY z)) s)

/-- SBC ZeroPageX, opcode F5 (R91). -/
def execSbcZpX (z : Byte) (s : State) : Host.Outcome State Fault Refusal :=
  finish (opSbc (.memory (.zeroPageX z)) s)

/-- SBC AbsoluteY, opcode F9 (R91). -/
def execSbcAbsY (addr : Addr) (s : State) : Host.Outcome State Fault Refusal :=
  finish (opSbc (.memory (.absoluteY addr)) s)

/-- SBC AbsoluteX, opcode FD (R91). -/
def execSbcAbsX (addr : Addr) (s : State) : Host.Outcome State Fault Refusal :=
  finish (opSbc (.memory (.absoluteX addr)) s)

/-- CMP IndirectX, opcode C1 (R92). -/
def execCmpIndX (z : Byte) (s : State) : Host.Outcome State Fault Refusal :=
  finish (opCmp (.memory (.indirectX z)) s)

/-- CMP ZeroPage, opcode C5 (R92). -/
def execCmpZp (z : Byte) (s : State) : Host.Outcome State Fault Refusal :=
  finish (opCmp (.memory (.zeroPage z)) s)

/-- CMP Immediate, opcode C9 (R92). -/
def execCmpImm (v : Byte) (s : State) : Host.Outcome State Fault Refusal :=
  finish (opCmp (.immediate v) s)

/-- CMP Absolute, opcode CD (R92). -/
def execCmpAbs (addr : Addr) (s : State) : Host.Outcome State Fault Refusal :=
  finish (opCmp (.memory (.absolute addr)) s)

/-- CMP IndirectY, opcode D1 (R92). -/
def execCmpIndY (z : Byte) (s : State) : Host.Outcome State Fault Refusal :=
  finish (opCmp (.memory (.indirectY z)) s)

/-- CMP ZeroPageX, opcode D5 (R92). -/
def execCmpZpX (z : Byte) (s : State) : Host.Outcome State Fault Refusal :=
  finish (opCmp (.memory (.zeroPageX z)) s)

/-- CMP AbsoluteY, opcode D9 (R92). -/
def execCmpAbsY (addr : Addr) (s : State) : Host.Outcome State Fault Refusal :=
  finish (opCmp (.memory (.absoluteY addr)) s)

/-- CMP AbsoluteX, opcode DD (R92). -/
def execCmpAbsX (addr : Addr) (s : State) : Host.Outcome State Fault Refusal :=
  finish (opCmp (.memory (.absoluteX addr)) s)

/-- CPX Immediate, opcode E0 (R93). -/
def execCpxImm (v : Byte) (s : State) : Host.Outcome State Fault Refusal :=
  finish (opCpx (.immediate v) s)

/-- CPX ZeroPage, opcode E4 (R93). -/
def execCpxZp (z : Byte) (s : State) : Host.Outcome State Fault Refusal :=
  finish (opCpx (.memory (.zeroPage z)) s)

/-- CPX Absolute, opcode EC (R93). -/
def execCpxAbs (addr : Addr) (s : State) : Host.Outcome State Fault Refusal :=
  finish (opCpx (.memory (.absolute addr)) s)

/-- CPY Immediate, opcode C0 (R94). -/
def execCpyImm (v : Byte) (s : State) : Host.Outcome State Fault Refusal :=
  finish (opCpy (.immediate v) s)

/-- CPY ZeroPage, opcode C4 (R94). -/
def execCpyZp (z : Byte) (s : State) : Host.Outcome State Fault Refusal :=
  finish (opCpy (.memory (.zeroPage z)) s)

/-- CPY Absolute, opcode CC (R94). -/
def execCpyAbs (addr : Addr) (s : State) : Host.Outcome State Fault Refusal :=
  finish (opCpy (.memory (.absolute addr)) s)

end Sys2Proof.Machine
end

