-- ==== Sys2Proof/Machine/Control.lean ====
section
/-! DEFINITION. Control transfer and NOP (44_branch_jump.md R130 to R142). -/

namespace Sys2Proof.Machine

/-! ### Shared meanings -/

/-- Whether a branch is taken, by its mnemonic (R131 to R138); `none` where the mnemonic is no branch. -/
def branchTaken (m : Mnemonic) (f : Flags) : Option Bool :=
  match m with
  | .bcc => some (!f.c)
  | .bcs => some f.c
  | .beq => some f.z
  | .bne => some (!f.z)
  | .bmi => some f.n
  | .bpl => some (!f.n)
  | .bvc => some (!f.v)
  | .bvs => some f.v
  | _ => none

/-- `(start + 2 + sext_16(b1)) mod 2^16` (R130). -/
def branchTarget (off : Byte) (s : State) : Addr := s.pc + 2 + off.signExtend 16

/-- The common rule of the eight branches (R130). -/
def opBranch (taken : Bool) (off : Byte) (s : State) : State :=
  if taken then s.setPc (branchTarget off s) else s.setPc (s.pc + 2)

/-- JMP (R139): PC from the address of the location; the cell is not read. -/
def opJmp (m : MemOperand) (s : State) : Except Fault State := do
  let (e, s) ← effAddr m s
  return s.setPc e.addr

/-- JSR (R140): push `start + 2`, high byte first, then PC from the address of the location. -/
def opJsr (m : MemOperand) (s : State) : Except Fault State := do
  let (e, s) ← effAddr m s
  let s ← pushWord (s.pc + 2) s
  return s.setPc e.addr

/-- RTS (R141): pull the return address, low byte first, and add one. -/
def opRts (s : State) : Except Fault State := do
  let (t, s) ← pullWord s
  return s.setPc (t + 1)

/-- NOP (R142). -/
def opNop (s : State) : State := next 0 s

/-! ### Meanings, one per opcode -/

/-- BCC Relative, opcode 90 (R131). -/
def execBcc (off : Byte) (s : State) : Host.Outcome State Fault Refusal :=
  .next (opBranch (!s.flags.c) off s)

/-- BCS Relative, opcode B0 (R132). -/
def execBcs (off : Byte) (s : State) : Host.Outcome State Fault Refusal :=
  .next (opBranch s.flags.c off s)

/-- BEQ Relative, opcode F0 (R133). -/
def execBeq (off : Byte) (s : State) : Host.Outcome State Fault Refusal :=
  .next (opBranch s.flags.z off s)

/-- BNE Relative, opcode D0 (R134). -/
def execBne (off : Byte) (s : State) : Host.Outcome State Fault Refusal :=
  .next (opBranch (!s.flags.z) off s)

/-- BMI Relative, opcode 30 (R135). -/
def execBmi (off : Byte) (s : State) : Host.Outcome State Fault Refusal :=
  .next (opBranch s.flags.n off s)

/-- BPL Relative, opcode 10 (R136). -/
def execBpl (off : Byte) (s : State) : Host.Outcome State Fault Refusal :=
  .next (opBranch (!s.flags.n) off s)

/-- BVC Relative, opcode 50 (R137). -/
def execBvc (off : Byte) (s : State) : Host.Outcome State Fault Refusal :=
  .next (opBranch (!s.flags.v) off s)

/-- BVS Relative, opcode 70 (R138). -/
def execBvs (off : Byte) (s : State) : Host.Outcome State Fault Refusal :=
  .next (opBranch s.flags.v off s)

/-- JMP Absolute, opcode 4C (R139). -/
def execJmpAbs (addr : Addr) (s : State) : Host.Outcome State Fault Refusal :=
  finish (opJmp (.absolute addr) s)

/-- JMP Indirect, opcode 6C (R139). -/
def execJmpInd (p : Addr) (s : State) : Host.Outcome State Fault Refusal :=
  finish (opJmp (.indirect p) s)

/-- JSR Absolute, opcode 20 (R140). -/
def execJsrAbs (addr : Addr) (s : State) : Host.Outcome State Fault Refusal :=
  finish (opJsr (.absolute addr) s)

/-- RTS Implicit, opcode 60 (R141). -/
def execRts (s : State) : Host.Outcome State Fault Refusal :=
  finish (opRts s)

/-- NOP Implicit, opcode EA (R142). -/
def execNop (s : State) : Host.Outcome State Fault Refusal :=
  .next (opNop s)

end Sys2Proof.Machine
end

