-- ==== Sys2Proof/Machine/Logic.lean ====
section
/-! DEFINITION. Logic, bit test, shifts and rotates (42_logic_shift_rotate.md R100 to R107). -/

namespace Sys2Proof.Machine

/-! ### Shared meanings, one per mnemonic -/

/-- The common rule of AND, ORA, EOR (R100 to R102): A from `A` and `m`, `SetNZ(r)`. -/
def opLogic (f : Byte → Byte → Byte) (o : Operand) (s : State) : Except Fault State := do
  let (m, s) ← readOperand o s
  let r := f s.a m
  return next (operandSize o) ((s.setA r).setFlags (s.flags.setNZ r))

/-- AND (R100). -/
def opAnd (o : Operand) (s : State) : Except Fault State := opLogic (· &&& ·) o s
/-- ORA (R101). -/
def opOra (o : Operand) (s : State) : Except Fault State := opLogic (· ||| ·) o s
/-- EOR (R102). -/
def opEor (o : Operand) (s : State) : Except Fault State := opLogic (· ^^^ ·) o s

/-- BIT (R103): Z from `A & m`, N and V from bits 7 and 6 of `m`; A is unchanged. -/
def opBit (o : Operand) (s : State) : Except Fault State := do
  let (m, s) ← readOperand o s
  return next (operandSize o) (s.setFlags (bitFlags s.a m s.flags))

/-- The common rule of the instructions that read, change and write one location (R104 to R107, R110, R111): one
`Load`, one `Store` of the same location, and the flags after the store (D20). -/
def opModify (value : Byte → Bool → Byte) (flags : Byte → Byte → Flags → Flags) (o : Operand) (s : State) :
    Except Fault State := do
  let (r, s) ← resolve o s
  let (m, s) ← load r.loc s
  let v := value m s.flags.c
  let s ← store r.loc v s
  return next (operandSize o) (s.setFlags (flags m v s.flags))

/-- ASL (R104). -/
def opAsl (o : Operand) (s : State) : Except Fault State := opModify aslValue leftFlags o s
/-- LSR (R105). -/
def opLsr (o : Operand) (s : State) : Except Fault State := opModify lsrValue rightFlags o s
/-- ROL (R106). -/
def opRol (o : Operand) (s : State) : Except Fault State := opModify rolValue leftFlags o s
/-- ROR (R107). -/
def opRor (o : Operand) (s : State) : Except Fault State := opModify rorValue rightFlags o s

/-! ### Meanings, one per opcode -/

/-- AND IndirectX, opcode 21 (R100). -/
def execAndIndX (z : Byte) (s : State) : Host.Outcome State Fault Refusal :=
  finish (opAnd (.memory (.indirectX z)) s)

/-- AND ZeroPage, opcode 25 (R100). -/
def execAndZp (z : Byte) (s : State) : Host.Outcome State Fault Refusal :=
  finish (opAnd (.memory (.zeroPage z)) s)

/-- AND Immediate, opcode 29 (R100). -/
def execAndImm (v : Byte) (s : State) : Host.Outcome State Fault Refusal :=
  finish (opAnd (.immediate v) s)

/-- AND Absolute, opcode 2D (R100). -/
def execAndAbs (addr : Addr) (s : State) : Host.Outcome State Fault Refusal :=
  finish (opAnd (.memory (.absolute addr)) s)

/-- AND IndirectY, opcode 31 (R100). -/
def execAndIndY (z : Byte) (s : State) : Host.Outcome State Fault Refusal :=
  finish (opAnd (.memory (.indirectY z)) s)

/-- AND ZeroPageX, opcode 35 (R100). -/
def execAndZpX (z : Byte) (s : State) : Host.Outcome State Fault Refusal :=
  finish (opAnd (.memory (.zeroPageX z)) s)

/-- AND AbsoluteY, opcode 39 (R100). -/
def execAndAbsY (addr : Addr) (s : State) : Host.Outcome State Fault Refusal :=
  finish (opAnd (.memory (.absoluteY addr)) s)

/-- AND AbsoluteX, opcode 3D (R100). -/
def execAndAbsX (addr : Addr) (s : State) : Host.Outcome State Fault Refusal :=
  finish (opAnd (.memory (.absoluteX addr)) s)

/-- ORA IndirectX, opcode 01 (R101). -/
def execOraIndX (z : Byte) (s : State) : Host.Outcome State Fault Refusal :=
  finish (opOra (.memory (.indirectX z)) s)

/-- ORA ZeroPage, opcode 05 (R101). -/
def execOraZp (z : Byte) (s : State) : Host.Outcome State Fault Refusal :=
  finish (opOra (.memory (.zeroPage z)) s)

/-- ORA Immediate, opcode 09 (R101). -/
def execOraImm (v : Byte) (s : State) : Host.Outcome State Fault Refusal :=
  finish (opOra (.immediate v) s)

/-- ORA Absolute, opcode 0D (R101). -/
def execOraAbs (addr : Addr) (s : State) : Host.Outcome State Fault Refusal :=
  finish (opOra (.memory (.absolute addr)) s)

/-- ORA IndirectY, opcode 11 (R101). -/
def execOraIndY (z : Byte) (s : State) : Host.Outcome State Fault Refusal :=
  finish (opOra (.memory (.indirectY z)) s)

/-- ORA ZeroPageX, opcode 15 (R101). -/
def execOraZpX (z : Byte) (s : State) : Host.Outcome State Fault Refusal :=
  finish (opOra (.memory (.zeroPageX z)) s)

/-- ORA AbsoluteY, opcode 19 (R101). -/
def execOraAbsY (addr : Addr) (s : State) : Host.Outcome State Fault Refusal :=
  finish (opOra (.memory (.absoluteY addr)) s)

/-- ORA AbsoluteX, opcode 1D (R101). -/
def execOraAbsX (addr : Addr) (s : State) : Host.Outcome State Fault Refusal :=
  finish (opOra (.memory (.absoluteX addr)) s)

/-- EOR IndirectX, opcode 41 (R102). -/
def execEorIndX (z : Byte) (s : State) : Host.Outcome State Fault Refusal :=
  finish (opEor (.memory (.indirectX z)) s)

/-- EOR ZeroPage, opcode 45 (R102). -/
def execEorZp (z : Byte) (s : State) : Host.Outcome State Fault Refusal :=
  finish (opEor (.memory (.zeroPage z)) s)

/-- EOR Immediate, opcode 49 (R102). -/
def execEorImm (v : Byte) (s : State) : Host.Outcome State Fault Refusal :=
  finish (opEor (.immediate v) s)

/-- EOR Absolute, opcode 4D (R102). -/
def execEorAbs (addr : Addr) (s : State) : Host.Outcome State Fault Refusal :=
  finish (opEor (.memory (.absolute addr)) s)

/-- EOR IndirectY, opcode 51 (R102). -/
def execEorIndY (z : Byte) (s : State) : Host.Outcome State Fault Refusal :=
  finish (opEor (.memory (.indirectY z)) s)

/-- EOR ZeroPageX, opcode 55 (R102). -/
def execEorZpX (z : Byte) (s : State) : Host.Outcome State Fault Refusal :=
  finish (opEor (.memory (.zeroPageX z)) s)

/-- EOR AbsoluteY, opcode 59 (R102). -/
def execEorAbsY (addr : Addr) (s : State) : Host.Outcome State Fault Refusal :=
  finish (opEor (.memory (.absoluteY addr)) s)

/-- EOR AbsoluteX, opcode 5D (R102). -/
def execEorAbsX (addr : Addr) (s : State) : Host.Outcome State Fault Refusal :=
  finish (opEor (.memory (.absoluteX addr)) s)

/-- BIT ZeroPage, opcode 24 (R103). -/
def execBitZp (z : Byte) (s : State) : Host.Outcome State Fault Refusal :=
  finish (opBit (.memory (.zeroPage z)) s)

/-- BIT Absolute, opcode 2C (R103). -/
def execBitAbs (addr : Addr) (s : State) : Host.Outcome State Fault Refusal :=
  finish (opBit (.memory (.absolute addr)) s)

/-- ASL ZeroPage, opcode 06 (R104). -/
def execAslZp (z : Byte) (s : State) : Host.Outcome State Fault Refusal :=
  finish (opAsl (.memory (.zeroPage z)) s)

/-- ASL Accumulator, opcode 0A (R104). -/
def execAslAcc (s : State) : Host.Outcome State Fault Refusal :=
  finish (opAsl .accumulator s)

/-- ASL Absolute, opcode 0E (R104). -/
def execAslAbs (addr : Addr) (s : State) : Host.Outcome State Fault Refusal :=
  finish (opAsl (.memory (.absolute addr)) s)

/-- ASL ZeroPageX, opcode 16 (R104). -/
def execAslZpX (z : Byte) (s : State) : Host.Outcome State Fault Refusal :=
  finish (opAsl (.memory (.zeroPageX z)) s)

/-- ASL AbsoluteX, opcode 1E (R104). -/
def execAslAbsX (addr : Addr) (s : State) : Host.Outcome State Fault Refusal :=
  finish (opAsl (.memory (.absoluteX addr)) s)

/-- LSR ZeroPage, opcode 46 (R105). -/
def execLsrZp (z : Byte) (s : State) : Host.Outcome State Fault Refusal :=
  finish (opLsr (.memory (.zeroPage z)) s)

/-- LSR Accumulator, opcode 4A (R105). -/
def execLsrAcc (s : State) : Host.Outcome State Fault Refusal :=
  finish (opLsr .accumulator s)

/-- LSR Absolute, opcode 4E (R105). -/
def execLsrAbs (addr : Addr) (s : State) : Host.Outcome State Fault Refusal :=
  finish (opLsr (.memory (.absolute addr)) s)

/-- LSR ZeroPageX, opcode 56 (R105). -/
def execLsrZpX (z : Byte) (s : State) : Host.Outcome State Fault Refusal :=
  finish (opLsr (.memory (.zeroPageX z)) s)

/-- LSR AbsoluteX, opcode 5E (R105). -/
def execLsrAbsX (addr : Addr) (s : State) : Host.Outcome State Fault Refusal :=
  finish (opLsr (.memory (.absoluteX addr)) s)

/-- ROL ZeroPage, opcode 26 (R106). -/
def execRolZp (z : Byte) (s : State) : Host.Outcome State Fault Refusal :=
  finish (opRol (.memory (.zeroPage z)) s)

/-- ROL Accumulator, opcode 2A (R106). -/
def execRolAcc (s : State) : Host.Outcome State Fault Refusal :=
  finish (opRol .accumulator s)

/-- ROL Absolute, opcode 2E (R106). -/
def execRolAbs (addr : Addr) (s : State) : Host.Outcome State Fault Refusal :=
  finish (opRol (.memory (.absolute addr)) s)

/-- ROL ZeroPageX, opcode 36 (R106). -/
def execRolZpX (z : Byte) (s : State) : Host.Outcome State Fault Refusal :=
  finish (opRol (.memory (.zeroPageX z)) s)

/-- ROL AbsoluteX, opcode 3E (R106). -/
def execRolAbsX (addr : Addr) (s : State) : Host.Outcome State Fault Refusal :=
  finish (opRol (.memory (.absoluteX addr)) s)

/-- ROR ZeroPage, opcode 66 (R107). -/
def execRorZp (z : Byte) (s : State) : Host.Outcome State Fault Refusal :=
  finish (opRor (.memory (.zeroPage z)) s)

/-- ROR Accumulator, opcode 6A (R107). -/
def execRorAcc (s : State) : Host.Outcome State Fault Refusal :=
  finish (opRor .accumulator s)

/-- ROR Absolute, opcode 6E (R107). -/
def execRorAbs (addr : Addr) (s : State) : Host.Outcome State Fault Refusal :=
  finish (opRor (.memory (.absolute addr)) s)

/-- ROR ZeroPageX, opcode 76 (R107). -/
def execRorZpX (z : Byte) (s : State) : Host.Outcome State Fault Refusal :=
  finish (opRor (.memory (.zeroPageX z)) s)

/-- ROR AbsoluteX, opcode 7E (R107). -/
def execRorAbsX (addr : Addr) (s : State) : Host.Outcome State Fault Refusal :=
  finish (opRor (.memory (.absoluteX addr)) s)

end Sys2Proof.Machine
end

