-- ==== Sys2Proof/Machine/System.lean ====
section
/-! DEFINITION. Stack, flag and system instructions (45_stack_flags_system.md R145 to R157). -/

namespace Sys2Proof.Machine

/-! ### Shared meanings, one per mnemonic -/

/-- PHA (R145). -/
def opPha (s : State) : Except Fault State := do
  let s ← push s.a s
  return next 0 s

/-- PHP (R146): the byte pushed has both convention bits set. -/
def opPhp (s : State) : Except Fault State := do
  let s ← push (s.flags.pByte true) s
  return next 0 s

/-- PLA (R147). -/
def opPla (s : State) : Except Fault State := do
  let (v, s) ← pull s
  return next 0 ((s.setA v).setFlags (s.flags.setNZ v))

/-- PLP (R148). -/
def opPlp (s : State) : Except Fault State := do
  let (v, s) ← pull s
  return next 0 (s.setFlags (Flags.ofByte v))

/-- The common rule of the flag instructions (R149 to R155): the flags, then PC. -/
def opFlag (f : Flags) (s : State) : State := next 0 (s.setFlags f)

/-- BRK (R156): the software trap, with return address `start + 2` and bit 4 set in the pushed byte. -/
def opBrk (s : State) : Except Fault State := takeTrap (s.pc + 2) Config.brkVector true s

/-- RTI (R157). -/
def opRti (s : State) : Except Fault State := returnFromTrap s

/-! ### Meanings, one per opcode -/

/-- PHA Implicit, opcode 48 (R145). -/
def execPha (s : State) : Host.Outcome State Fault Refusal :=
  finish (opPha s)

/-- PHP Implicit, opcode 08 (R146). -/
def execPhp (s : State) : Host.Outcome State Fault Refusal :=
  finish (opPhp s)

/-- PLA Implicit, opcode 68 (R147). -/
def execPla (s : State) : Host.Outcome State Fault Refusal :=
  finish (opPla s)

/-- PLP Implicit, opcode 28 (R148). -/
def execPlp (s : State) : Host.Outcome State Fault Refusal :=
  finish (opPlp s)

/-- CLC Implicit, opcode 18 (R149). -/
def execClc (s : State) : Host.Outcome State Fault Refusal :=
  .next (opFlag { s.flags with c := false } s)

/-- SEC Implicit, opcode 38 (R150). -/
def execSec (s : State) : Host.Outcome State Fault Refusal :=
  .next (opFlag { s.flags with c := true } s)

/-- CLI Implicit, opcode 58 (R151). -/
def execCli (s : State) : Host.Outcome State Fault Refusal :=
  .next (opFlag { s.flags with i := false } s)

/-- SEI Implicit, opcode 78 (R152). -/
def execSei (s : State) : Host.Outcome State Fault Refusal :=
  .next (opFlag { s.flags with i := true } s)

/-- CLD Implicit, opcode D8 (R153). -/
def execCld (s : State) : Host.Outcome State Fault Refusal :=
  .next (opFlag { s.flags with d := false } s)

/-- SED Implicit, opcode F8 (R154). -/
def execSed (s : State) : Host.Outcome State Fault Refusal :=
  .next (opFlag { s.flags with d := true } s)

/-- CLV Implicit, opcode B8 (R155). -/
def execClv (s : State) : Host.Outcome State Fault Refusal :=
  .next (opFlag { s.flags with v := false } s)

/-- BRK Implicit, opcode 00 (R156). -/
def execBrk (s : State) : Host.Outcome State Fault Refusal :=
  finish (opBrk s)

/-- RTI Implicit, opcode 40 (R157). -/
def execRti (s : State) : Host.Outcome State Fault Refusal :=
  finish (opRti s)

end Sys2Proof.Machine
end

