-- ==== Sys2Proof/Machine/Transfer.lean ====
section
/-! DEFINITION. Increment, decrement, transfers, loads and stores (43_incdec_transfer_loadstore.md R110 to
R127). -/

namespace Sys2Proof.Machine

/-! ### Shared meanings, one per mnemonic -/

/-- INC (R110). -/
def opInc (o : Operand) (s : State) : Except Fault State := opModify incValue stepFlags o s
/-- DEC (R111). -/
def opDec (o : Operand) (s : State) : Except Fault State := opModify decValue stepFlags o s

/-- The end of a register instruction that writes `v`: `SetNZ(v)`, then PC (R112 to R120). -/
def withNZ (v : Byte) (s : State) : State := next 0 (s.setFlags (s.flags.setNZ v))

/-- INX (R112). -/
def opInx (s : State) : State := withNZ (s.x + 1) (s.setX (s.x + 1))
/-- INY (R113). -/
def opIny (s : State) : State := withNZ (s.y + 1) (s.setY (s.y + 1))
/-- DEX (R114). -/
def opDex (s : State) : State := withNZ (s.x - 1) (s.setX (s.x - 1))
/-- DEY (R115). -/
def opDey (s : State) : State := withNZ (s.y - 1) (s.setY (s.y - 1))
/-- TAX (R116). -/
def opTax (s : State) : State := withNZ s.a (s.setX s.a)
/-- TAY (R117). -/
def opTay (s : State) : State := withNZ s.a (s.setY s.a)
/-- TXA (R118). -/
def opTxa (s : State) : State := withNZ s.x (s.setA s.x)
/-- TYA (R119). -/
def opTya (s : State) : State := withNZ s.y (s.setA s.y)
/-- TSX (R120). -/
def opTsx (s : State) : State := withNZ s.sp (s.setX s.sp)
/-- TXS (R121): no flag. -/
def opTxs (s : State) : State := next 0 (s.setSp s.x)

/-- The common rule of the loads (R122 to R124): the register from `m`, `SetNZ(m)`. -/
def opLoad (setReg : State → Byte → State) (o : Operand) (s : State) : Except Fault State := do
  let (m, s) ← readOperand o s
  return next (operandSize o) ((setReg s m).setFlags (s.flags.setNZ m))

/-- LDA (R122). -/
def opLda (o : Operand) (s : State) : Except Fault State := opLoad State.setA o s
/-- LDX (R123). -/
def opLdx (o : Operand) (s : State) : Except Fault State := opLoad State.setX o s
/-- LDY (R124). -/
def opLdy (o : Operand) (s : State) : Except Fault State := opLoad State.setY o s

/-- The common rule of the stores (R125 to R127): resolve, then one write; the destination is not read and no flag
changes. -/
def opStore (reg : State → Byte) (m : MemOperand) (s : State) : Except Fault State := do
  let (e, s) ← effAddr m s
  let s ← memWrite e.addr (reg s) s
  return next m.mode.operandBytes s

/-- STA (R125). -/
def opSta (m : MemOperand) (s : State) : Except Fault State := opStore (·.a) m s
/-- STX (R126). -/
def opStx (m : MemOperand) (s : State) : Except Fault State := opStore (·.x) m s
/-- STY (R127). -/
def opSty (m : MemOperand) (s : State) : Except Fault State := opStore (·.y) m s

/-! ### Meanings, one per opcode -/

/-- INC ZeroPage, opcode E6 (R110). -/
def execIncZp (z : Byte) (s : State) : Host.Outcome State Fault Refusal :=
  finish (opInc (.memory (.zeroPage z)) s)

/-- INC Absolute, opcode EE (R110). -/
def execIncAbs (addr : Addr) (s : State) : Host.Outcome State Fault Refusal :=
  finish (opInc (.memory (.absolute addr)) s)

/-- INC ZeroPageX, opcode F6 (R110). -/
def execIncZpX (z : Byte) (s : State) : Host.Outcome State Fault Refusal :=
  finish (opInc (.memory (.zeroPageX z)) s)

/-- INC AbsoluteX, opcode FE (R110). -/
def execIncAbsX (addr : Addr) (s : State) : Host.Outcome State Fault Refusal :=
  finish (opInc (.memory (.absoluteX addr)) s)

/-- DEC ZeroPage, opcode C6 (R111). -/
def execDecZp (z : Byte) (s : State) : Host.Outcome State Fault Refusal :=
  finish (opDec (.memory (.zeroPage z)) s)

/-- DEC Absolute, opcode CE (R111). -/
def execDecAbs (addr : Addr) (s : State) : Host.Outcome State Fault Refusal :=
  finish (opDec (.memory (.absolute addr)) s)

/-- DEC ZeroPageX, opcode D6 (R111). -/
def execDecZpX (z : Byte) (s : State) : Host.Outcome State Fault Refusal :=
  finish (opDec (.memory (.zeroPageX z)) s)

/-- DEC AbsoluteX, opcode DE (R111). -/
def execDecAbsX (addr : Addr) (s : State) : Host.Outcome State Fault Refusal :=
  finish (opDec (.memory (.absoluteX addr)) s)

/-- INX Implicit, opcode E8 (R112). -/
def execInx (s : State) : Host.Outcome State Fault Refusal :=
  .next (opInx s)

/-- INY Implicit, opcode C8 (R113). -/
def execIny (s : State) : Host.Outcome State Fault Refusal :=
  .next (opIny s)

/-- DEX Implicit, opcode CA (R114). -/
def execDex (s : State) : Host.Outcome State Fault Refusal :=
  .next (opDex s)

/-- DEY Implicit, opcode 88 (R115). -/
def execDey (s : State) : Host.Outcome State Fault Refusal :=
  .next (opDey s)

/-- TAX Implicit, opcode AA (R116). -/
def execTax (s : State) : Host.Outcome State Fault Refusal :=
  .next (opTax s)

/-- TAY Implicit, opcode A8 (R117). -/
def execTay (s : State) : Host.Outcome State Fault Refusal :=
  .next (opTay s)

/-- TXA Implicit, opcode 8A (R118). -/
def execTxa (s : State) : Host.Outcome State Fault Refusal :=
  .next (opTxa s)

/-- TYA Implicit, opcode 98 (R119). -/
def execTya (s : State) : Host.Outcome State Fault Refusal :=
  .next (opTya s)

/-- TSX Implicit, opcode BA (R120). -/
def execTsx (s : State) : Host.Outcome State Fault Refusal :=
  .next (opTsx s)

/-- TXS Implicit, opcode 9A (R121). -/
def execTxs (s : State) : Host.Outcome State Fault Refusal :=
  .next (opTxs s)

/-- LDA IndirectX, opcode A1 (R122). -/
def execLdaIndX (z : Byte) (s : State) : Host.Outcome State Fault Refusal :=
  finish (opLda (.memory (.indirectX z)) s)

/-- LDA ZeroPage, opcode A5 (R122). -/
def execLdaZp (z : Byte) (s : State) : Host.Outcome State Fault Refusal :=
  finish (opLda (.memory (.zeroPage z)) s)

/-- LDA Immediate, opcode A9 (R122). -/
def execLdaImm (v : Byte) (s : State) : Host.Outcome State Fault Refusal :=
  finish (opLda (.immediate v) s)

/-- LDA Absolute, opcode AD (R122). -/
def execLdaAbs (addr : Addr) (s : State) : Host.Outcome State Fault Refusal :=
  finish (opLda (.memory (.absolute addr)) s)

/-- LDA IndirectY, opcode B1 (R122). -/
def execLdaIndY (z : Byte) (s : State) : Host.Outcome State Fault Refusal :=
  finish (opLda (.memory (.indirectY z)) s)

/-- LDA ZeroPageX, opcode B5 (R122). -/
def execLdaZpX (z : Byte) (s : State) : Host.Outcome State Fault Refusal :=
  finish (opLda (.memory (.zeroPageX z)) s)

/-- LDA AbsoluteY, opcode B9 (R122). -/
def execLdaAbsY (addr : Addr) (s : State) : Host.Outcome State Fault Refusal :=
  finish (opLda (.memory (.absoluteY addr)) s)

/-- LDA AbsoluteX, opcode BD (R122). -/
def execLdaAbsX (addr : Addr) (s : State) : Host.Outcome State Fault Refusal :=
  finish (opLda (.memory (.absoluteX addr)) s)

/-- LDX Immediate, opcode A2 (R123). -/
def execLdxImm (v : Byte) (s : State) : Host.Outcome State Fault Refusal :=
  finish (opLdx (.immediate v) s)

/-- LDX ZeroPage, opcode A6 (R123). -/
def execLdxZp (z : Byte) (s : State) : Host.Outcome State Fault Refusal :=
  finish (opLdx (.memory (.zeroPage z)) s)

/-- LDX Absolute, opcode AE (R123). -/
def execLdxAbs (addr : Addr) (s : State) : Host.Outcome State Fault Refusal :=
  finish (opLdx (.memory (.absolute addr)) s)

/-- LDX ZeroPageY, opcode B6 (R123). -/
def execLdxZpY (z : Byte) (s : State) : Host.Outcome State Fault Refusal :=
  finish (opLdx (.memory (.zeroPageY z)) s)

/-- LDX AbsoluteY, opcode BE (R123). -/
def execLdxAbsY (addr : Addr) (s : State) : Host.Outcome State Fault Refusal :=
  finish (opLdx (.memory (.absoluteY addr)) s)

/-- LDY Immediate, opcode A0 (R124). -/
def execLdyImm (v : Byte) (s : State) : Host.Outcome State Fault Refusal :=
  finish (opLdy (.immediate v) s)

/-- LDY ZeroPage, opcode A4 (R124). -/
def execLdyZp (z : Byte) (s : State) : Host.Outcome State Fault Refusal :=
  finish (opLdy (.memory (.zeroPage z)) s)

/-- LDY Absolute, opcode AC (R124). -/
def execLdyAbs (addr : Addr) (s : State) : Host.Outcome State Fault Refusal :=
  finish (opLdy (.memory (.absolute addr)) s)

/-- LDY ZeroPageX, opcode B4 (R124). -/
def execLdyZpX (z : Byte) (s : State) : Host.Outcome State Fault Refusal :=
  finish (opLdy (.memory (.zeroPageX z)) s)

/-- LDY AbsoluteX, opcode BC (R124). -/
def execLdyAbsX (addr : Addr) (s : State) : Host.Outcome State Fault Refusal :=
  finish (opLdy (.memory (.absoluteX addr)) s)

/-- STA IndirectX, opcode 81 (R125). -/
def execStaIndX (z : Byte) (s : State) : Host.Outcome State Fault Refusal :=
  finish (opSta (.indirectX z) s)

/-- STA ZeroPage, opcode 85 (R125). -/
def execStaZp (z : Byte) (s : State) : Host.Outcome State Fault Refusal :=
  finish (opSta (.zeroPage z) s)

/-- STA Absolute, opcode 8D (R125). -/
def execStaAbs (addr : Addr) (s : State) : Host.Outcome State Fault Refusal :=
  finish (opSta (.absolute addr) s)

/-- STA IndirectY, opcode 91 (R125). -/
def execStaIndY (z : Byte) (s : State) : Host.Outcome State Fault Refusal :=
  finish (opSta (.indirectY z) s)

/-- STA ZeroPageX, opcode 95 (R125). -/
def execStaZpX (z : Byte) (s : State) : Host.Outcome State Fault Refusal :=
  finish (opSta (.zeroPageX z) s)

/-- STA AbsoluteY, opcode 99 (R125). -/
def execStaAbsY (addr : Addr) (s : State) : Host.Outcome State Fault Refusal :=
  finish (opSta (.absoluteY addr) s)

/-- STA AbsoluteX, opcode 9D (R125). -/
def execStaAbsX (addr : Addr) (s : State) : Host.Outcome State Fault Refusal :=
  finish (opSta (.absoluteX addr) s)

/-- STX ZeroPage, opcode 86 (R126). -/
def execStxZp (z : Byte) (s : State) : Host.Outcome State Fault Refusal :=
  finish (opStx (.zeroPage z) s)

/-- STX Absolute, opcode 8E (R126). -/
def execStxAbs (addr : Addr) (s : State) : Host.Outcome State Fault Refusal :=
  finish (opStx (.absolute addr) s)

/-- STX ZeroPageY, opcode 96 (R126). -/
def execStxZpY (z : Byte) (s : State) : Host.Outcome State Fault Refusal :=
  finish (opStx (.zeroPageY z) s)

/-- STY ZeroPage, opcode 84 (R127). -/
def execStyZp (z : Byte) (s : State) : Host.Outcome State Fault Refusal :=
  finish (opSty (.zeroPage z) s)

/-- STY Absolute, opcode 8C (R127). -/
def execStyAbs (addr : Addr) (s : State) : Host.Outcome State Fault Refusal :=
  finish (opSty (.absolute addr) s)

/-- STY ZeroPageX, opcode 94 (R127). -/
def execStyZpX (z : Byte) (s : State) : Host.Outcome State Fault Refusal :=
  finish (opSty (.zeroPageX z) s)

end Sys2Proof.Machine
end

