-- ==== Sys2Proof/Machine/Undocumented.lean ====
section
/-! DEFINITION. The 105 undocumented opcodes: diagnosed no-ops (46_undocumented.md R165 to R168). -/

namespace Sys2Proof.Machine

/-- The rule of every undocumented opcode (R165): run the resolver with its pointer reads, discard the location, emit
`UnimplementedOpcode(op, start)` (60_exceptions.md R173), and advance PC by the catalog length. No register, flag or
memory cell changes; a BusFault of a pointer read comes first, and then no diagnostic is emitted (R174). -/
def diagnosed (op : Byte) (o : Operand) (s : State) : Except Fault State := do
  let (_, s) ← resolve o s
  return next (operandSize o) (s.report (.doneDiag op s.pc))

/-! ### Meanings, one per opcode -/

/-- JAM Implicit, opcode 02 (R165). -/
def execJam02 (s : State) : Host.Outcome State Fault Refusal :=
  finish (diagnosed 0x02 .implicit s)

/-- SLO IndirectX, opcode 03 (R165). -/
def execSlo03 (z : Byte) (s : State) : Host.Outcome State Fault Refusal :=
  finish (diagnosed 0x03 (.memory (.indirectX z)) s)

/-- NOP ZeroPage, opcode 04 (R165). -/
def execNop04 (z : Byte) (s : State) : Host.Outcome State Fault Refusal :=
  finish (diagnosed 0x04 (.memory (.zeroPage z)) s)

/-- SLO ZeroPage, opcode 07 (R165). -/
def execSlo07 (z : Byte) (s : State) : Host.Outcome State Fault Refusal :=
  finish (diagnosed 0x07 (.memory (.zeroPage z)) s)

/-- ANC Immediate, opcode 0B (R165). -/
def execAnc0B (v : Byte) (s : State) : Host.Outcome State Fault Refusal :=
  finish (diagnosed 0x0B (.immediate v) s)

/-- NOP Absolute, opcode 0C (R165). -/
def execNop0C (addr : Addr) (s : State) : Host.Outcome State Fault Refusal :=
  finish (diagnosed 0x0C (.memory (.absolute addr)) s)

/-- SLO Absolute, opcode 0F (R165). -/
def execSlo0F (addr : Addr) (s : State) : Host.Outcome State Fault Refusal :=
  finish (diagnosed 0x0F (.memory (.absolute addr)) s)

/-- JAM Implicit, opcode 12 (R165). -/
def execJam12 (s : State) : Host.Outcome State Fault Refusal :=
  finish (diagnosed 0x12 .implicit s)

/-- SLO IndirectY, opcode 13 (R165). -/
def execSlo13 (z : Byte) (s : State) : Host.Outcome State Fault Refusal :=
  finish (diagnosed 0x13 (.memory (.indirectY z)) s)

/-- NOP ZeroPageX, opcode 14 (R165). -/
def execNop14 (z : Byte) (s : State) : Host.Outcome State Fault Refusal :=
  finish (diagnosed 0x14 (.memory (.zeroPageX z)) s)

/-- SLO ZeroPageX, opcode 17 (R165). -/
def execSlo17 (z : Byte) (s : State) : Host.Outcome State Fault Refusal :=
  finish (diagnosed 0x17 (.memory (.zeroPageX z)) s)

/-- NOP Implicit, opcode 1A (R165). -/
def execNop1A (s : State) : Host.Outcome State Fault Refusal :=
  finish (diagnosed 0x1A .implicit s)

/-- SLO AbsoluteY, opcode 1B (R165). -/
def execSlo1B (addr : Addr) (s : State) : Host.Outcome State Fault Refusal :=
  finish (diagnosed 0x1B (.memory (.absoluteY addr)) s)

/-- NOP AbsoluteX, opcode 1C (R165). -/
def execNop1C (addr : Addr) (s : State) : Host.Outcome State Fault Refusal :=
  finish (diagnosed 0x1C (.memory (.absoluteX addr)) s)

/-- SLO AbsoluteX, opcode 1F (R165). -/
def execSlo1F (addr : Addr) (s : State) : Host.Outcome State Fault Refusal :=
  finish (diagnosed 0x1F (.memory (.absoluteX addr)) s)

/-- JAM Implicit, opcode 22 (R165). -/
def execJam22 (s : State) : Host.Outcome State Fault Refusal :=
  finish (diagnosed 0x22 .implicit s)

/-- RLA IndirectX, opcode 23 (R165). -/
def execRla23 (z : Byte) (s : State) : Host.Outcome State Fault Refusal :=
  finish (diagnosed 0x23 (.memory (.indirectX z)) s)

/-- RLA ZeroPage, opcode 27 (R165). -/
def execRla27 (z : Byte) (s : State) : Host.Outcome State Fault Refusal :=
  finish (diagnosed 0x27 (.memory (.zeroPage z)) s)

/-- ANC Immediate, opcode 2B (R165). -/
def execAnc2B (v : Byte) (s : State) : Host.Outcome State Fault Refusal :=
  finish (diagnosed 0x2B (.immediate v) s)

/-- RLA Absolute, opcode 2F (R165). -/
def execRla2F (addr : Addr) (s : State) : Host.Outcome State Fault Refusal :=
  finish (diagnosed 0x2F (.memory (.absolute addr)) s)

/-- JAM Implicit, opcode 32 (R165). -/
def execJam32 (s : State) : Host.Outcome State Fault Refusal :=
  finish (diagnosed 0x32 .implicit s)

/-- RLA IndirectY, opcode 33 (R165). -/
def execRla33 (z : Byte) (s : State) : Host.Outcome State Fault Refusal :=
  finish (diagnosed 0x33 (.memory (.indirectY z)) s)

/-- NOP ZeroPageX, opcode 34 (R165). -/
def execNop34 (z : Byte) (s : State) : Host.Outcome State Fault Refusal :=
  finish (diagnosed 0x34 (.memory (.zeroPageX z)) s)

/-- RLA ZeroPageX, opcode 37 (R165). -/
def execRla37 (z : Byte) (s : State) : Host.Outcome State Fault Refusal :=
  finish (diagnosed 0x37 (.memory (.zeroPageX z)) s)

/-- NOP Implicit, opcode 3A (R165). -/
def execNop3A (s : State) : Host.Outcome State Fault Refusal :=
  finish (diagnosed 0x3A .implicit s)

/-- RLA AbsoluteY, opcode 3B (R165). -/
def execRla3B (addr : Addr) (s : State) : Host.Outcome State Fault Refusal :=
  finish (diagnosed 0x3B (.memory (.absoluteY addr)) s)

/-- NOP AbsoluteX, opcode 3C (R165). -/
def execNop3C (addr : Addr) (s : State) : Host.Outcome State Fault Refusal :=
  finish (diagnosed 0x3C (.memory (.absoluteX addr)) s)

/-- RLA AbsoluteX, opcode 3F (R165). -/
def execRla3F (addr : Addr) (s : State) : Host.Outcome State Fault Refusal :=
  finish (diagnosed 0x3F (.memory (.absoluteX addr)) s)

/-- JAM Implicit, opcode 42 (R165). -/
def execJam42 (s : State) : Host.Outcome State Fault Refusal :=
  finish (diagnosed 0x42 .implicit s)

/-- SRE IndirectX, opcode 43 (R165). -/
def execSre43 (z : Byte) (s : State) : Host.Outcome State Fault Refusal :=
  finish (diagnosed 0x43 (.memory (.indirectX z)) s)

/-- NOP ZeroPage, opcode 44 (R165). -/
def execNop44 (z : Byte) (s : State) : Host.Outcome State Fault Refusal :=
  finish (diagnosed 0x44 (.memory (.zeroPage z)) s)

/-- SRE ZeroPage, opcode 47 (R165). -/
def execSre47 (z : Byte) (s : State) : Host.Outcome State Fault Refusal :=
  finish (diagnosed 0x47 (.memory (.zeroPage z)) s)

/-- ALR Immediate, opcode 4B (R165). -/
def execAlr4B (v : Byte) (s : State) : Host.Outcome State Fault Refusal :=
  finish (diagnosed 0x4B (.immediate v) s)

/-- SRE Absolute, opcode 4F (R165). -/
def execSre4F (addr : Addr) (s : State) : Host.Outcome State Fault Refusal :=
  finish (diagnosed 0x4F (.memory (.absolute addr)) s)

/-- JAM Implicit, opcode 52 (R165). -/
def execJam52 (s : State) : Host.Outcome State Fault Refusal :=
  finish (diagnosed 0x52 .implicit s)

/-- SRE IndirectY, opcode 53 (R165). -/
def execSre53 (z : Byte) (s : State) : Host.Outcome State Fault Refusal :=
  finish (diagnosed 0x53 (.memory (.indirectY z)) s)

/-- NOP ZeroPageX, opcode 54 (R165). -/
def execNop54 (z : Byte) (s : State) : Host.Outcome State Fault Refusal :=
  finish (diagnosed 0x54 (.memory (.zeroPageX z)) s)

/-- SRE ZeroPageX, opcode 57 (R165). -/
def execSre57 (z : Byte) (s : State) : Host.Outcome State Fault Refusal :=
  finish (diagnosed 0x57 (.memory (.zeroPageX z)) s)

/-- NOP Implicit, opcode 5A (R165). -/
def execNop5A (s : State) : Host.Outcome State Fault Refusal :=
  finish (diagnosed 0x5A .implicit s)

/-- SRE AbsoluteY, opcode 5B (R165). -/
def execSre5B (addr : Addr) (s : State) : Host.Outcome State Fault Refusal :=
  finish (diagnosed 0x5B (.memory (.absoluteY addr)) s)

/-- NOP AbsoluteX, opcode 5C (R165). -/
def execNop5C (addr : Addr) (s : State) : Host.Outcome State Fault Refusal :=
  finish (diagnosed 0x5C (.memory (.absoluteX addr)) s)

/-- SRE AbsoluteX, opcode 5F (R165). -/
def execSre5F (addr : Addr) (s : State) : Host.Outcome State Fault Refusal :=
  finish (diagnosed 0x5F (.memory (.absoluteX addr)) s)

/-- JAM Implicit, opcode 62 (R165). -/
def execJam62 (s : State) : Host.Outcome State Fault Refusal :=
  finish (diagnosed 0x62 .implicit s)

/-- RRA IndirectX, opcode 63 (R165). -/
def execRra63 (z : Byte) (s : State) : Host.Outcome State Fault Refusal :=
  finish (diagnosed 0x63 (.memory (.indirectX z)) s)

/-- NOP ZeroPage, opcode 64 (R165). -/
def execNop64 (z : Byte) (s : State) : Host.Outcome State Fault Refusal :=
  finish (diagnosed 0x64 (.memory (.zeroPage z)) s)

/-- RRA ZeroPage, opcode 67 (R165). -/
def execRra67 (z : Byte) (s : State) : Host.Outcome State Fault Refusal :=
  finish (diagnosed 0x67 (.memory (.zeroPage z)) s)

/-- ARR Immediate, opcode 6B (R165). -/
def execArr6B (v : Byte) (s : State) : Host.Outcome State Fault Refusal :=
  finish (diagnosed 0x6B (.immediate v) s)

/-- RRA Absolute, opcode 6F (R165). -/
def execRra6F (addr : Addr) (s : State) : Host.Outcome State Fault Refusal :=
  finish (diagnosed 0x6F (.memory (.absolute addr)) s)

/-- JAM Implicit, opcode 72 (R165). -/
def execJam72 (s : State) : Host.Outcome State Fault Refusal :=
  finish (diagnosed 0x72 .implicit s)

/-- RRA IndirectY, opcode 73 (R165). -/
def execRra73 (z : Byte) (s : State) : Host.Outcome State Fault Refusal :=
  finish (diagnosed 0x73 (.memory (.indirectY z)) s)

/-- NOP ZeroPageX, opcode 74 (R165). -/
def execNop74 (z : Byte) (s : State) : Host.Outcome State Fault Refusal :=
  finish (diagnosed 0x74 (.memory (.zeroPageX z)) s)

/-- RRA ZeroPageX, opcode 77 (R165). -/
def execRra77 (z : Byte) (s : State) : Host.Outcome State Fault Refusal :=
  finish (diagnosed 0x77 (.memory (.zeroPageX z)) s)

/-- NOP Implicit, opcode 7A (R165). -/
def execNop7A (s : State) : Host.Outcome State Fault Refusal :=
  finish (diagnosed 0x7A .implicit s)

/-- RRA AbsoluteY, opcode 7B (R165). -/
def execRra7B (addr : Addr) (s : State) : Host.Outcome State Fault Refusal :=
  finish (diagnosed 0x7B (.memory (.absoluteY addr)) s)

/-- NOP AbsoluteX, opcode 7C (R165). -/
def execNop7C (addr : Addr) (s : State) : Host.Outcome State Fault Refusal :=
  finish (diagnosed 0x7C (.memory (.absoluteX addr)) s)

/-- RRA AbsoluteX, opcode 7F (R165). -/
def execRra7F (addr : Addr) (s : State) : Host.Outcome State Fault Refusal :=
  finish (diagnosed 0x7F (.memory (.absoluteX addr)) s)

/-- NOP Immediate, opcode 80 (R165). -/
def execNop80 (v : Byte) (s : State) : Host.Outcome State Fault Refusal :=
  finish (diagnosed 0x80 (.immediate v) s)

/-- NOP Immediate, opcode 82 (R165). -/
def execNop82 (v : Byte) (s : State) : Host.Outcome State Fault Refusal :=
  finish (diagnosed 0x82 (.immediate v) s)

/-- SAX IndirectX, opcode 83 (R165). -/
def execSax83 (z : Byte) (s : State) : Host.Outcome State Fault Refusal :=
  finish (diagnosed 0x83 (.memory (.indirectX z)) s)

/-- SAX ZeroPage, opcode 87 (R165). -/
def execSax87 (z : Byte) (s : State) : Host.Outcome State Fault Refusal :=
  finish (diagnosed 0x87 (.memory (.zeroPage z)) s)

/-- NOP Immediate, opcode 89 (R165). -/
def execNop89 (v : Byte) (s : State) : Host.Outcome State Fault Refusal :=
  finish (diagnosed 0x89 (.immediate v) s)

/-- XAA Immediate, opcode 8B (R165). -/
def execXaa8B (v : Byte) (s : State) : Host.Outcome State Fault Refusal :=
  finish (diagnosed 0x8B (.immediate v) s)

/-- SAX Absolute, opcode 8F (R165). -/
def execSax8F (addr : Addr) (s : State) : Host.Outcome State Fault Refusal :=
  finish (diagnosed 0x8F (.memory (.absolute addr)) s)

/-- JAM Implicit, opcode 92 (R165). -/
def execJam92 (s : State) : Host.Outcome State Fault Refusal :=
  finish (diagnosed 0x92 .implicit s)

/-- AHX IndirectY, opcode 93 (R165). -/
def execAhx93 (z : Byte) (s : State) : Host.Outcome State Fault Refusal :=
  finish (diagnosed 0x93 (.memory (.indirectY z)) s)

/-- SAX ZeroPageY, opcode 97 (R165). -/
def execSax97 (z : Byte) (s : State) : Host.Outcome State Fault Refusal :=
  finish (diagnosed 0x97 (.memory (.zeroPageY z)) s)

/-- TAS AbsoluteY, opcode 9B (R165). -/
def execTas9B (addr : Addr) (s : State) : Host.Outcome State Fault Refusal :=
  finish (diagnosed 0x9B (.memory (.absoluteY addr)) s)

/-- SHY AbsoluteX, opcode 9C (R165). -/
def execShy9C (addr : Addr) (s : State) : Host.Outcome State Fault Refusal :=
  finish (diagnosed 0x9C (.memory (.absoluteX addr)) s)

/-- SHX AbsoluteY, opcode 9E (R165). -/
def execShx9E (addr : Addr) (s : State) : Host.Outcome State Fault Refusal :=
  finish (diagnosed 0x9E (.memory (.absoluteY addr)) s)

/-- AHX AbsoluteY, opcode 9F (R165). -/
def execAhx9F (addr : Addr) (s : State) : Host.Outcome State Fault Refusal :=
  finish (diagnosed 0x9F (.memory (.absoluteY addr)) s)

/-- LAX IndirectX, opcode A3 (R165). -/
def execLaxA3 (z : Byte) (s : State) : Host.Outcome State Fault Refusal :=
  finish (diagnosed 0xA3 (.memory (.indirectX z)) s)

/-- LAX ZeroPage, opcode A7 (R165). -/
def execLaxA7 (z : Byte) (s : State) : Host.Outcome State Fault Refusal :=
  finish (diagnosed 0xA7 (.memory (.zeroPage z)) s)

/-- LAX Immediate, opcode AB (R165). -/
def execLaxAB (v : Byte) (s : State) : Host.Outcome State Fault Refusal :=
  finish (diagnosed 0xAB (.immediate v) s)

/-- LAX Absolute, opcode AF (R165). -/
def execLaxAF (addr : Addr) (s : State) : Host.Outcome State Fault Refusal :=
  finish (diagnosed 0xAF (.memory (.absolute addr)) s)

/-- JAM Implicit, opcode B2 (R165). -/
def execJamB2 (s : State) : Host.Outcome State Fault Refusal :=
  finish (diagnosed 0xB2 .implicit s)

/-- LAX IndirectY, opcode B3 (R165). -/
def execLaxB3 (z : Byte) (s : State) : Host.Outcome State Fault Refusal :=
  finish (diagnosed 0xB3 (.memory (.indirectY z)) s)

/-- LAX ZeroPageY, opcode B7 (R165). -/
def execLaxB7 (z : Byte) (s : State) : Host.Outcome State Fault Refusal :=
  finish (diagnosed 0xB7 (.memory (.zeroPageY z)) s)

/-- LAS AbsoluteY, opcode BB (R165). -/
def execLasBB (addr : Addr) (s : State) : Host.Outcome State Fault Refusal :=
  finish (diagnosed 0xBB (.memory (.absoluteY addr)) s)

/-- LAX AbsoluteY, opcode BF (R165). -/
def execLaxBF (addr : Addr) (s : State) : Host.Outcome State Fault Refusal :=
  finish (diagnosed 0xBF (.memory (.absoluteY addr)) s)

/-- NOP Immediate, opcode C2 (R165). -/
def execNopC2 (v : Byte) (s : State) : Host.Outcome State Fault Refusal :=
  finish (diagnosed 0xC2 (.immediate v) s)

/-- DCP IndirectX, opcode C3 (R165). -/
def execDcpC3 (z : Byte) (s : State) : Host.Outcome State Fault Refusal :=
  finish (diagnosed 0xC3 (.memory (.indirectX z)) s)

/-- DCP ZeroPage, opcode C7 (R165). -/
def execDcpC7 (z : Byte) (s : State) : Host.Outcome State Fault Refusal :=
  finish (diagnosed 0xC7 (.memory (.zeroPage z)) s)

/-- AXS Immediate, opcode CB (R165). -/
def execAxsCB (v : Byte) (s : State) : Host.Outcome State Fault Refusal :=
  finish (diagnosed 0xCB (.immediate v) s)

/-- DCP Absolute, opcode CF (R165). -/
def execDcpCF (addr : Addr) (s : State) : Host.Outcome State Fault Refusal :=
  finish (diagnosed 0xCF (.memory (.absolute addr)) s)

/-- JAM Implicit, opcode D2 (R165). -/
def execJamD2 (s : State) : Host.Outcome State Fault Refusal :=
  finish (diagnosed 0xD2 .implicit s)

/-- DCP IndirectY, opcode D3 (R165). -/
def execDcpD3 (z : Byte) (s : State) : Host.Outcome State Fault Refusal :=
  finish (diagnosed 0xD3 (.memory (.indirectY z)) s)

/-- NOP ZeroPageX, opcode D4 (R165). -/
def execNopD4 (z : Byte) (s : State) : Host.Outcome State Fault Refusal :=
  finish (diagnosed 0xD4 (.memory (.zeroPageX z)) s)

/-- DCP ZeroPageX, opcode D7 (R165). -/
def execDcpD7 (z : Byte) (s : State) : Host.Outcome State Fault Refusal :=
  finish (diagnosed 0xD7 (.memory (.zeroPageX z)) s)

/-- NOP Implicit, opcode DA (R165). -/
def execNopDA (s : State) : Host.Outcome State Fault Refusal :=
  finish (diagnosed 0xDA .implicit s)

/-- DCP AbsoluteY, opcode DB (R165). -/
def execDcpDB (addr : Addr) (s : State) : Host.Outcome State Fault Refusal :=
  finish (diagnosed 0xDB (.memory (.absoluteY addr)) s)

/-- NOP AbsoluteX, opcode DC (R165). -/
def execNopDC (addr : Addr) (s : State) : Host.Outcome State Fault Refusal :=
  finish (diagnosed 0xDC (.memory (.absoluteX addr)) s)

/-- DCP AbsoluteX, opcode DF (R165). -/
def execDcpDF (addr : Addr) (s : State) : Host.Outcome State Fault Refusal :=
  finish (diagnosed 0xDF (.memory (.absoluteX addr)) s)

/-- NOP Immediate, opcode E2 (R165). -/
def execNopE2 (v : Byte) (s : State) : Host.Outcome State Fault Refusal :=
  finish (diagnosed 0xE2 (.immediate v) s)

/-- ISC IndirectX, opcode E3 (R165). -/
def execIscE3 (z : Byte) (s : State) : Host.Outcome State Fault Refusal :=
  finish (diagnosed 0xE3 (.memory (.indirectX z)) s)

/-- ISC ZeroPage, opcode E7 (R165). -/
def execIscE7 (z : Byte) (s : State) : Host.Outcome State Fault Refusal :=
  finish (diagnosed 0xE7 (.memory (.zeroPage z)) s)

/-- SBC Immediate, opcode EB (R165). -/
def execSbcEB (v : Byte) (s : State) : Host.Outcome State Fault Refusal :=
  finish (diagnosed 0xEB (.immediate v) s)

/-- ISC Absolute, opcode EF (R165). -/
def execIscEF (addr : Addr) (s : State) : Host.Outcome State Fault Refusal :=
  finish (diagnosed 0xEF (.memory (.absolute addr)) s)

/-- JAM Implicit, opcode F2 (R165). -/
def execJamF2 (s : State) : Host.Outcome State Fault Refusal :=
  finish (diagnosed 0xF2 .implicit s)

/-- ISC IndirectY, opcode F3 (R165). -/
def execIscF3 (z : Byte) (s : State) : Host.Outcome State Fault Refusal :=
  finish (diagnosed 0xF3 (.memory (.indirectY z)) s)

/-- NOP ZeroPageX, opcode F4 (R165). -/
def execNopF4 (z : Byte) (s : State) : Host.Outcome State Fault Refusal :=
  finish (diagnosed 0xF4 (.memory (.zeroPageX z)) s)

/-- ISC ZeroPageX, opcode F7 (R165). -/
def execIscF7 (z : Byte) (s : State) : Host.Outcome State Fault Refusal :=
  finish (diagnosed 0xF7 (.memory (.zeroPageX z)) s)

/-- NOP Implicit, opcode FA (R165). -/
def execNopFA (s : State) : Host.Outcome State Fault Refusal :=
  finish (diagnosed 0xFA .implicit s)

/-- ISC AbsoluteY, opcode FB (R165). -/
def execIscFB (addr : Addr) (s : State) : Host.Outcome State Fault Refusal :=
  finish (diagnosed 0xFB (.memory (.absoluteY addr)) s)

/-- NOP AbsoluteX, opcode FC (R165). -/
def execNopFC (addr : Addr) (s : State) : Host.Outcome State Fault Refusal :=
  finish (diagnosed 0xFC (.memory (.absoluteX addr)) s)

/-- ISC AbsoluteX, opcode FF (R165). -/
def execIscFF (addr : Addr) (s : State) : Host.Outcome State Fault Refusal :=
  finish (diagnosed 0xFF (.memory (.absoluteX addr)) s)

end Sys2Proof.Machine
end

