-- ==== Sys2Proof/Machine/Dispatch.lean ====
section
/-! DEFINITION. Phase 4 and phase 5 of a step (40_addressing.md R70): one arm per row of spec/opcode_table.json. -/

namespace Sys2Proof.Machine

def exec (i : Instr) (s : State) : Host.Outcome State Fault Refusal :=
  match i with
  | .oraIndX z => Sys2Proof.Machine.execOraIndX z s
  | .oraZp z => Sys2Proof.Machine.execOraZp z s
  | .aslZp z => Sys2Proof.Machine.execAslZp z s
  | .oraImm v => Sys2Proof.Machine.execOraImm v s
  | .oraAbs addr => Sys2Proof.Machine.execOraAbs addr s
  | .aslAbs addr => Sys2Proof.Machine.execAslAbs addr s
  | .bpl off => Sys2Proof.Machine.execBpl off s
  | .oraIndY z => Sys2Proof.Machine.execOraIndY z s
  | .oraZpX z => Sys2Proof.Machine.execOraZpX z s
  | .aslZpX z => Sys2Proof.Machine.execAslZpX z s
  | .oraAbsY addr => Sys2Proof.Machine.execOraAbsY addr s
  | .oraAbsX addr => Sys2Proof.Machine.execOraAbsX addr s
  | .aslAbsX addr => Sys2Proof.Machine.execAslAbsX addr s
  | .jsrAbs addr => Sys2Proof.Machine.execJsrAbs addr s
  | .andIndX z => Sys2Proof.Machine.execAndIndX z s
  | .bitZp z => Sys2Proof.Machine.execBitZp z s
  | .andZp z => Sys2Proof.Machine.execAndZp z s
  | .rolZp z => Sys2Proof.Machine.execRolZp z s
  | .andImm v => Sys2Proof.Machine.execAndImm v s
  | .bitAbs addr => Sys2Proof.Machine.execBitAbs addr s
  | .andAbs addr => Sys2Proof.Machine.execAndAbs addr s
  | .rolAbs addr => Sys2Proof.Machine.execRolAbs addr s
  | .bmi off => Sys2Proof.Machine.execBmi off s
  | .andIndY z => Sys2Proof.Machine.execAndIndY z s
  | .andZpX z => Sys2Proof.Machine.execAndZpX z s
  | .rolZpX z => Sys2Proof.Machine.execRolZpX z s
  | .andAbsY addr => Sys2Proof.Machine.execAndAbsY addr s
  | .andAbsX addr => Sys2Proof.Machine.execAndAbsX addr s
  | .rolAbsX addr => Sys2Proof.Machine.execRolAbsX addr s
  | .eorIndX z => Sys2Proof.Machine.execEorIndX z s
  | .eorZp z => Sys2Proof.Machine.execEorZp z s
  | .lsrZp z => Sys2Proof.Machine.execLsrZp z s
  | .eorImm v => Sys2Proof.Machine.execEorImm v s
  | .jmpAbs addr => Sys2Proof.Machine.execJmpAbs addr s
  | .eorAbs addr => Sys2Proof.Machine.execEorAbs addr s
  | .lsrAbs addr => Sys2Proof.Machine.execLsrAbs addr s
  | .bvc off => Sys2Proof.Machine.execBvc off s
  | .eorIndY z => Sys2Proof.Machine.execEorIndY z s
  | .eorZpX z => Sys2Proof.Machine.execEorZpX z s
  | .lsrZpX z => Sys2Proof.Machine.execLsrZpX z s
  | .eorAbsY addr => Sys2Proof.Machine.execEorAbsY addr s
  | .eorAbsX addr => Sys2Proof.Machine.execEorAbsX addr s
  | .lsrAbsX addr => Sys2Proof.Machine.execLsrAbsX addr s
  | .adcIndX z => Sys2Proof.Machine.execAdcIndX z s
  | .adcZp z => Sys2Proof.Machine.execAdcZp z s
  | .rorZp z => Sys2Proof.Machine.execRorZp z s
  | .adcImm v => Sys2Proof.Machine.execAdcImm v s
  | .jmpInd p => Sys2Proof.Machine.execJmpInd p s
  | .adcAbs addr => Sys2Proof.Machine.execAdcAbs addr s
  | .rorAbs addr => Sys2Proof.Machine.execRorAbs addr s
  | .bvs off => Sys2Proof.Machine.execBvs off s
  | .adcIndY z => Sys2Proof.Machine.execAdcIndY z s
  | .adcZpX z => Sys2Proof.Machine.execAdcZpX z s
  | .rorZpX z => Sys2Proof.Machine.execRorZpX z s
  | .adcAbsY addr => Sys2Proof.Machine.execAdcAbsY addr s
  | .adcAbsX addr => Sys2Proof.Machine.execAdcAbsX addr s
  | .rorAbsX addr => Sys2Proof.Machine.execRorAbsX addr s
  | .staIndX z => Sys2Proof.Machine.execStaIndX z s
  | .styZp z => Sys2Proof.Machine.execStyZp z s
  | .staZp z => Sys2Proof.Machine.execStaZp z s
  | .stxZp z => Sys2Proof.Machine.execStxZp z s
  | .styAbs addr => Sys2Proof.Machine.execStyAbs addr s
  | .staAbs addr => Sys2Proof.Machine.execStaAbs addr s
  | .stxAbs addr => Sys2Proof.Machine.execStxAbs addr s
  | .bcc off => Sys2Proof.Machine.execBcc off s
  | .staIndY z => Sys2Proof.Machine.execStaIndY z s
  | .styZpX z => Sys2Proof.Machine.execStyZpX z s
  | .staZpX z => Sys2Proof.Machine.execStaZpX z s
  | .stxZpY z => Sys2Proof.Machine.execStxZpY z s
  | .staAbsY addr => Sys2Proof.Machine.execStaAbsY addr s
  | .staAbsX addr => Sys2Proof.Machine.execStaAbsX addr s
  | .ldyImm v => Sys2Proof.Machine.execLdyImm v s
  | .ldaIndX z => Sys2Proof.Machine.execLdaIndX z s
  | .ldxImm v => Sys2Proof.Machine.execLdxImm v s
  | .ldyZp z => Sys2Proof.Machine.execLdyZp z s
  | .ldaZp z => Sys2Proof.Machine.execLdaZp z s
  | .ldxZp z => Sys2Proof.Machine.execLdxZp z s
  | .ldaImm v => Sys2Proof.Machine.execLdaImm v s
  | .ldyAbs addr => Sys2Proof.Machine.execLdyAbs addr s
  | .ldaAbs addr => Sys2Proof.Machine.execLdaAbs addr s
  | .ldxAbs addr => Sys2Proof.Machine.execLdxAbs addr s
  | .bcs off => Sys2Proof.Machine.execBcs off s
  | .ldaIndY z => Sys2Proof.Machine.execLdaIndY z s
  | .ldyZpX z => Sys2Proof.Machine.execLdyZpX z s
  | .ldaZpX z => Sys2Proof.Machine.execLdaZpX z s
  | .ldxZpY z => Sys2Proof.Machine.execLdxZpY z s
  | .ldaAbsY addr => Sys2Proof.Machine.execLdaAbsY addr s
  | .ldyAbsX addr => Sys2Proof.Machine.execLdyAbsX addr s
  | .ldaAbsX addr => Sys2Proof.Machine.execLdaAbsX addr s
  | .ldxAbsY addr => Sys2Proof.Machine.execLdxAbsY addr s
  | .cpyImm v => Sys2Proof.Machine.execCpyImm v s
  | .cmpIndX z => Sys2Proof.Machine.execCmpIndX z s
  | .cpyZp z => Sys2Proof.Machine.execCpyZp z s
  | .cmpZp z => Sys2Proof.Machine.execCmpZp z s
  | .decZp z => Sys2Proof.Machine.execDecZp z s
  | .cmpImm v => Sys2Proof.Machine.execCmpImm v s
  | .cpyAbs addr => Sys2Proof.Machine.execCpyAbs addr s
  | .cmpAbs addr => Sys2Proof.Machine.execCmpAbs addr s
  | .decAbs addr => Sys2Proof.Machine.execDecAbs addr s
  | .bne off => Sys2Proof.Machine.execBne off s
  | .cmpIndY z => Sys2Proof.Machine.execCmpIndY z s
  | .cmpZpX z => Sys2Proof.Machine.execCmpZpX z s
  | .decZpX z => Sys2Proof.Machine.execDecZpX z s
  | .cmpAbsY addr => Sys2Proof.Machine.execCmpAbsY addr s
  | .cmpAbsX addr => Sys2Proof.Machine.execCmpAbsX addr s
  | .decAbsX addr => Sys2Proof.Machine.execDecAbsX addr s
  | .cpxImm v => Sys2Proof.Machine.execCpxImm v s
  | .sbcIndX z => Sys2Proof.Machine.execSbcIndX z s
  | .cpxZp z => Sys2Proof.Machine.execCpxZp z s
  | .sbcZp z => Sys2Proof.Machine.execSbcZp z s
  | .incZp z => Sys2Proof.Machine.execIncZp z s
  | .sbcImm v => Sys2Proof.Machine.execSbcImm v s
  | .cpxAbs addr => Sys2Proof.Machine.execCpxAbs addr s
  | .sbcAbs addr => Sys2Proof.Machine.execSbcAbs addr s
  | .incAbs addr => Sys2Proof.Machine.execIncAbs addr s
  | .beq off => Sys2Proof.Machine.execBeq off s
  | .sbcIndY z => Sys2Proof.Machine.execSbcIndY z s
  | .sbcZpX z => Sys2Proof.Machine.execSbcZpX z s
  | .incZpX z => Sys2Proof.Machine.execIncZpX z s
  | .sbcAbsY addr => Sys2Proof.Machine.execSbcAbsY addr s
  | .sbcAbsX addr => Sys2Proof.Machine.execSbcAbsX addr s
  | .incAbsX addr => Sys2Proof.Machine.execIncAbsX addr s
  | .slo03 z => Sys2Proof.Machine.execSlo03 z s
  | .nop04 z => Sys2Proof.Machine.execNop04 z s
  | .slo07 z => Sys2Proof.Machine.execSlo07 z s
  | .anc0B v => Sys2Proof.Machine.execAnc0B v s
  | .nop0C addr => Sys2Proof.Machine.execNop0C addr s
  | .slo0F addr => Sys2Proof.Machine.execSlo0F addr s
  | .slo13 z => Sys2Proof.Machine.execSlo13 z s
  | .nop14 z => Sys2Proof.Machine.execNop14 z s
  | .slo17 z => Sys2Proof.Machine.execSlo17 z s
  | .slo1B addr => Sys2Proof.Machine.execSlo1B addr s
  | .nop1C addr => Sys2Proof.Machine.execNop1C addr s
  | .slo1F addr => Sys2Proof.Machine.execSlo1F addr s
  | .rla23 z => Sys2Proof.Machine.execRla23 z s
  | .rla27 z => Sys2Proof.Machine.execRla27 z s
  | .anc2B v => Sys2Proof.Machine.execAnc2B v s
  | .rla2F addr => Sys2Proof.Machine.execRla2F addr s
  | .rla33 z => Sys2Proof.Machine.execRla33 z s
  | .nop34 z => Sys2Proof.Machine.execNop34 z s
  | .rla37 z => Sys2Proof.Machine.execRla37 z s
  | .rla3B addr => Sys2Proof.Machine.execRla3B addr s
  | .nop3C addr => Sys2Proof.Machine.execNop3C addr s
  | .rla3F addr => Sys2Proof.Machine.execRla3F addr s
  | .sre43 z => Sys2Proof.Machine.execSre43 z s
  | .nop44 z => Sys2Proof.Machine.execNop44 z s
  | .sre47 z => Sys2Proof.Machine.execSre47 z s
  | .alr4B v => Sys2Proof.Machine.execAlr4B v s
  | .sre4F addr => Sys2Proof.Machine.execSre4F addr s
  | .sre53 z => Sys2Proof.Machine.execSre53 z s
  | .nop54 z => Sys2Proof.Machine.execNop54 z s
  | .sre57 z => Sys2Proof.Machine.execSre57 z s
  | .sre5B addr => Sys2Proof.Machine.execSre5B addr s
  | .nop5C addr => Sys2Proof.Machine.execNop5C addr s
  | .sre5F addr => Sys2Proof.Machine.execSre5F addr s
  | .rra63 z => Sys2Proof.Machine.execRra63 z s
  | .nop64 z => Sys2Proof.Machine.execNop64 z s
  | .rra67 z => Sys2Proof.Machine.execRra67 z s
  | .arr6B v => Sys2Proof.Machine.execArr6B v s
  | .rra6F addr => Sys2Proof.Machine.execRra6F addr s
  | .rra73 z => Sys2Proof.Machine.execRra73 z s
  | .nop74 z => Sys2Proof.Machine.execNop74 z s
  | .rra77 z => Sys2Proof.Machine.execRra77 z s
  | .rra7B addr => Sys2Proof.Machine.execRra7B addr s
  | .nop7C addr => Sys2Proof.Machine.execNop7C addr s
  | .rra7F addr => Sys2Proof.Machine.execRra7F addr s
  | .nop80 v => Sys2Proof.Machine.execNop80 v s
  | .nop82 v => Sys2Proof.Machine.execNop82 v s
  | .sax83 z => Sys2Proof.Machine.execSax83 z s
  | .sax87 z => Sys2Proof.Machine.execSax87 z s
  | .nop89 v => Sys2Proof.Machine.execNop89 v s
  | .xaa8B v => Sys2Proof.Machine.execXaa8B v s
  | .sax8F addr => Sys2Proof.Machine.execSax8F addr s
  | .ahx93 z => Sys2Proof.Machine.execAhx93 z s
  | .sax97 z => Sys2Proof.Machine.execSax97 z s
  | .tas9B addr => Sys2Proof.Machine.execTas9B addr s
  | .shy9C addr => Sys2Proof.Machine.execShy9C addr s
  | .shx9E addr => Sys2Proof.Machine.execShx9E addr s
  | .ahx9F addr => Sys2Proof.Machine.execAhx9F addr s
  | .laxA3 z => Sys2Proof.Machine.execLaxA3 z s
  | .laxA7 z => Sys2Proof.Machine.execLaxA7 z s
  | .laxAB v => Sys2Proof.Machine.execLaxAB v s
  | .laxAF addr => Sys2Proof.Machine.execLaxAF addr s
  | .laxB3 z => Sys2Proof.Machine.execLaxB3 z s
  | .laxB7 z => Sys2Proof.Machine.execLaxB7 z s
  | .lasBB addr => Sys2Proof.Machine.execLasBB addr s
  | .laxBF addr => Sys2Proof.Machine.execLaxBF addr s
  | .nopC2 v => Sys2Proof.Machine.execNopC2 v s
  | .dcpC3 z => Sys2Proof.Machine.execDcpC3 z s
  | .dcpC7 z => Sys2Proof.Machine.execDcpC7 z s
  | .axsCB v => Sys2Proof.Machine.execAxsCB v s
  | .dcpCF addr => Sys2Proof.Machine.execDcpCF addr s
  | .dcpD3 z => Sys2Proof.Machine.execDcpD3 z s
  | .nopD4 z => Sys2Proof.Machine.execNopD4 z s
  | .dcpD7 z => Sys2Proof.Machine.execDcpD7 z s
  | .dcpDB addr => Sys2Proof.Machine.execDcpDB addr s
  | .nopDC addr => Sys2Proof.Machine.execNopDC addr s
  | .dcpDF addr => Sys2Proof.Machine.execDcpDF addr s
  | .nopE2 v => Sys2Proof.Machine.execNopE2 v s
  | .iscE3 z => Sys2Proof.Machine.execIscE3 z s
  | .iscE7 z => Sys2Proof.Machine.execIscE7 z s
  | .sbcEB v => Sys2Proof.Machine.execSbcEB v s
  | .iscEF addr => Sys2Proof.Machine.execIscEF addr s
  | .iscF3 z => Sys2Proof.Machine.execIscF3 z s
  | .nopF4 z => Sys2Proof.Machine.execNopF4 z s
  | .iscF7 z => Sys2Proof.Machine.execIscF7 z s
  | .iscFB addr => Sys2Proof.Machine.execIscFB addr s
  | .nopFC addr => Sys2Proof.Machine.execNopFC addr s
  | .iscFF addr => Sys2Proof.Machine.execIscFF addr s
  | .brk => Sys2Proof.Machine.execBrk s
  | .php => Sys2Proof.Machine.execPhp s
  | .aslAcc => Sys2Proof.Machine.execAslAcc s
  | .clc => Sys2Proof.Machine.execClc s
  | .plp => Sys2Proof.Machine.execPlp s
  | .rolAcc => Sys2Proof.Machine.execRolAcc s
  | .sec => Sys2Proof.Machine.execSec s
  | .rti => Sys2Proof.Machine.execRti s
  | .pha => Sys2Proof.Machine.execPha s
  | .lsrAcc => Sys2Proof.Machine.execLsrAcc s
  | .cli => Sys2Proof.Machine.execCli s
  | .rts => Sys2Proof.Machine.execRts s
  | .pla => Sys2Proof.Machine.execPla s
  | .rorAcc => Sys2Proof.Machine.execRorAcc s
  | .sei => Sys2Proof.Machine.execSei s
  | .dey => Sys2Proof.Machine.execDey s
  | .txa => Sys2Proof.Machine.execTxa s
  | .tya => Sys2Proof.Machine.execTya s
  | .txs => Sys2Proof.Machine.execTxs s
  | .tay => Sys2Proof.Machine.execTay s
  | .tax => Sys2Proof.Machine.execTax s
  | .clv => Sys2Proof.Machine.execClv s
  | .tsx => Sys2Proof.Machine.execTsx s
  | .iny => Sys2Proof.Machine.execIny s
  | .dex => Sys2Proof.Machine.execDex s
  | .cld => Sys2Proof.Machine.execCld s
  | .inx => Sys2Proof.Machine.execInx s
  | .nop => Sys2Proof.Machine.execNop s
  | .sed => Sys2Proof.Machine.execSed s
  | .jam02 => Sys2Proof.Machine.execJam02 s
  | .jam12 => Sys2Proof.Machine.execJam12 s
  | .nop1A => Sys2Proof.Machine.execNop1A s
  | .jam22 => Sys2Proof.Machine.execJam22 s
  | .jam32 => Sys2Proof.Machine.execJam32 s
  | .nop3A => Sys2Proof.Machine.execNop3A s
  | .jam42 => Sys2Proof.Machine.execJam42 s
  | .jam52 => Sys2Proof.Machine.execJam52 s
  | .nop5A => Sys2Proof.Machine.execNop5A s
  | .jam62 => Sys2Proof.Machine.execJam62 s
  | .jam72 => Sys2Proof.Machine.execJam72 s
  | .nop7A => Sys2Proof.Machine.execNop7A s
  | .jam92 => Sys2Proof.Machine.execJam92 s
  | .jamB2 => Sys2Proof.Machine.execJamB2 s
  | .jamD2 => Sys2Proof.Machine.execJamD2 s
  | .nopDA => Sys2Proof.Machine.execNopDA s
  | .jamF2 => Sys2Proof.Machine.execJamF2 s
  | .nopFA => Sys2Proof.Machine.execNopFA s

end Sys2Proof.Machine
end

