-- ==== Sys2Proof/Machine/Fetch.lean ====
section
/-! DEFINITION. Phases 1 and 2 of a step: the fetch (40_addressing.md R70, R71), and placing bytes in storage for the
driver. -/

namespace Sys2Proof.Machine

/-- Read the opcode byte at `start`, and as many operand bytes after it, modulo 2^16, as the catalog mode has; the
instruction they are (R71). -/
def fetch (s : State) : Except Fault (Instr × State) := do
  let start := s.pc
  let (op, s) ← memRead start s
  match operandCount op with
  | 0 => return (assemble op 0 0, s)
  | 1 =>
    let (b1, s) ← memRead (start + 1) s
    return (assemble op b1 0, s)
  | _ =>
    let (b1, s) ← memRead (start + 1) s
    let (b2, s) ← memRead (start + 2) s
    return (assemble op b1 b2, s)

/-- The driver writes a storage cell through the bus's translation (60_exceptions.md R182). An address that leads to no
storage cell has nothing to write (log 15). -/
def pokeCell (addr : Addr) (v : Byte) (s : State) : State :=
  match translateAddr s.platform addr with
  | .cell n => s.setMem (s.mem.write n v)
  | .device _ _ | .nowhere => s

/-- The driver writes bytes at consecutive raw addresses, modulo 2^16. -/
def pokeBytes (addr : Addr) : List Byte → State → State
  | [], s => s
  | b :: bs, s => pokeBytes (addr + 1) bs (pokeCell addr b s)

end Sys2Proof.Machine
end

