-- ==== Sys2Proof/Machine/Step.lean ====
section
/-! DEFINITION. One step: the execution of one instruction, in the five phases of 40_addressing.md R70. -/

namespace Sys2Proof.Machine

/-- One step (R70): fetch and decode, then resolve, execute and advance PC, which are `exec`. A BusFault in the fetch
ends it there (60_exceptions.md R172). -/
def step (s : State) : Host.Outcome State Fault Refusal :=
  match fetch s.beginStep with
  | .ok (i, t) => exec i t
  | .error f => .fault f

/-- `s` with the instruction whose bits are `w` in the storage cells that the next fetch reads: at PC and the two
addresses after it (log 16). -/
def State.withFetchWord (s : State) (nbits w : Nat) : State := pokeBytes s.pc (tableBytes nbits w) s

end Sys2Proof.Machine
end

