-- ==== Sys2Proof/Machine/Driver.lean ====
section
/-! DEFINITION. What the driver may do between steps: assert reset (70_reset_and_hazards.md R190) and use the inspection
port (60_exceptions.md R182). None of it is part of `step`. -/

namespace Sys2Proof.Machine

/-- The register file as reset sets it before the vector is read (R190). -/
def resetRegisters (s : State) : State :=
  let s := ((s.setA 0).setX 0).setY 0
  (s.setSp Config.resetS).setFlags { c := false, z := false, i := true, d := false, v := false, n := false }

/-- The `reset` input, asserted between steps (R190): the registers, then PC from the reset vector, low byte first.
Nothing is pushed and no cell is written. Where a vector read raises BusFault, PC is unspecified: a free value (log 8). -/
def resetInput (s : State) : Except Fault State :=
  match readVector Config.resetVector (resetRegisters s.beginStep) with
  | .ok (t, s) => .ok (s.setPc t)
  | .error (.busFault addr kind left) =>
    .error (.busFault addr kind (left.setPc (Config.resetFaultPc s.record.length)))

/-- P as the inspection port shows it: `Pbyte(0)` (10_state.md R17). -/
def inspectP (s : State) : Byte := s.flags.pByte false

/-- A write of P through the port is `SetP` (R182). -/
def pokeP (v : Byte) (s : State) : State := s.setFlags (Flags.ofByte v)

/-- A storage cell as the port shows it, through the bus's translation and without side effect (R182); an address that
leads to no storage cell shows none (log 15). -/
def inspectCell (addr : Addr) (s : State) : Option Byte :=
  match translateAddr s.platform addr with
  | .cell n => some (s.mem.read n)
  | .device _ _ | .nowhere => none

/-- The driver writes A through the port (R182). -/
def pokeA (v : Byte) (s : State) : State := s.setA v
/-- The driver writes X through the port (R182). -/
def pokeX (v : Byte) (s : State) : State := s.setX v
/-- The driver writes Y through the port (R182). -/
def pokeY (v : Byte) (s : State) : State := s.setY v
/-- The driver writes S through the port (R182). -/
def pokeSp (v : Byte) (s : State) : State := s.setSp v
/-- The driver writes PC through the port (R182). -/
def pokePc (t : Addr) (s : State) : State := s.setPc t

end Sys2Proof.Machine
end

