-- ==== Sys2Proof/Machine/Timing.lean ====
section
/-! DEFINITION. The informative cycle count of a completed step (70_reset_and_hazards.md R198), a side function that no
rule and no field of the state depends on (R199, log 13). -/

namespace Sys2Proof.Machine

/-- One more cycle where the catalog marks the opcode `+p` and indexing crossed a page (R198). -/
def pageCycles (i : Instr) (cross : Bool) : Nat :=
  if (catalog i.opcode).penalty = .page ∧ cross = true then 1 else 0

/-- One more cycle for a taken branch, and one more again where the target's page is not the page of `start` (R198). -/
def branchCycles (i : Instr) (s : State) : Nat :=
  match branchTaken i.mnemonic s.flags, i.operand with
  | some true, .relative off => if hiByte (branchTarget off s) = hiByte s.pc then 1 else 2
  | _, _ => 0

/-- The cycles of the step that executes `i` from the fetched state `s`; none where the step ends in BusFault (R198). -/
def cycles (i : Instr) (s : State) : Option Nat :=
  match exec i s, resolve i.operand s with
  | .next _, .ok (r, _) => some ((catalog i.opcode).baseCycles + pageCycles i r.cross + branchCycles i s)
  | _, _ => none

end Sys2Proof.Machine
end

