-- ==== Sys2Proof/Safety.lean ====
section
/-! DEFINITION. The terms claims are stated in: which addresses the bus answers, what a clean run is (60_exceptions.md
R175), what the driver finds after a step, and the invariant every step keeps. -/

namespace Sys2Proof.Machine

/-- The bus answers at the raw address: it is no reserved window without handler (20_memory.md R36). -/
def Answers (p : Platform) (addr : Addr) : Prop := translateAddr p addr ≠ .nowhere

/-- A platform on which no access can raise BusFault: every reserved window it has is handled, or it has none, as
FLAT_BUS (R39). -/
def AllAnswer (p : Platform) : Prop := ∀ addr, Answers p addr

/-- The raw address leads to a storage cell (R33 to R35). -/
def IsStorage (p : Platform) (addr : Addr) : Prop := ∃ n, translateAddr p addr = .cell n

/-- The bus answers at the location, where it is a memory cell at all. -/
def LocAnswers (p : Platform) : Loc → Prop
  | .acc | .imm _ => True
  | .mem addr => Answers p addr

/-- What the driver finds after a step, whatever its outcome (R171: the next step runs from the state a fault left). -/
def driverNext (s : State) : State :=
  match step s with
  | .next t => t
  | .fault f => f.left
  | .refused _ => s

/-- "no step of this run faulted and none met an undocumented opcode" (R175). -/
def State.Clean (s : State) : Prop := s.record = []

/-- The invariant of the state: the storage cells keep their canonical form, all at addresses of the one address space
(10_state.md R22). -/
def State.Inv (s : State) : Prop := Memory.wf s.mem

/-- The registers other than PC, and the flags, of two states are the same. -/
def SameRegisters (s t : State) : Prop :=
  t.a = s.a ∧ t.x = s.x ∧ t.y = s.y ∧ t.sp = s.sp ∧ t.flags = s.flags

/-- `t` differs from `s` at most in what the bus exposes: the transactions issued and what device handlers have seen. -/
def Observed (s t : State) : Prop := t = { s with trace := t.trace, deviceLog := t.deviceLog }

/-- Every byte of memory reads the same in two states, through every raw address. -/
def SameMemory (s t : State) : Prop := ∀ addr, inspectCell addr t = inspectCell addr s

/-- PC after an instruction that computes no override: `start` plus its bytes (R89). -/
def pcAfter (i : Instr) (s : State) : Addr := s.pc + BitVec.ofNat 16 (encode i).length

/-- What a step cut short before it committed anything leaves: registers, flags, PC and storage as they were (R172). -/
def NothingCommitted (s : State) (f : Fault) : Prop :=
  SameRegisters s f.left ∧ f.left.pc = s.pc ∧ f.left.mem = s.mem

/-- The fault is a BusFault at the raw address, of the kind. -/
def FaultsAt (f : Fault) (addr : Addr) (kind : AccessKind) : Prop := ∃ left, f = .busFault addr kind left

/-- The state after bytes are written at raw addresses, in order. -/
def stores : List (Addr × Byte) → State → Except Fault State
  | [], s => .ok s
  | (addr, v) :: rest, s => do
    let s ← memWrite addr v s
    stores rest s

/-- What a step cut short after it stored the bytes `done` leaves (R172): PC and platform as they were; the storage,
and at least the transactions and device accesses, of the state those writes lead to. So each byte shows at its address
where the addresses lead to different cells, and no cell has changed but those the addresses lead to. -/
def LeavesStored (s : State) (f : Fault) (done : List (Addr × Byte)) : Prop :=
  f.left.pc = s.pc ∧ f.left.platform = s.platform ∧
  (∃ u, stores done s = .ok u ∧ f.left.mem = u.mem ∧ u.trace <+: f.left.trace ∧ u.deviceLog <+: f.left.deviceLog) ∧
  (done.Pairwise (fun p q => translateAddr s.platform p.1 ≠ translateAddr s.platform q.1) →
    ∀ p ∈ done, IsStorage s.platform p.1 → inspectCell p.1 f.left = some p.2) ∧
  ∀ n, (∀ p ∈ done, translateAddr s.platform p.1 ≠ .cell n) → f.left.mem.read n = s.mem.read n

/-- The shape of the rules that load one byte `m` and then write registers and flags only: where the operand can be
read, the instruction completes with the state `post m u` and PC advanced, `u` being the state after the read, in which
no register, flag or cell has changed; where it cannot, the step faults and nothing is committed. -/
def ReadsThen (i : Instr) (s : State) (post : Byte → State → State) : Prop :=
  (∀ m u, readOperand i.operand s = .ok (m, u) →
    exec i s = .next { post m u with pc := pcAfter i s } ∧ Observed s u) ∧
    ∀ f, readOperand i.operand s = .error f → exec i s = .fault f ∧ NothingCommitted s f

/-- The shape of the rules that read one location, write `value m` back to it and then the flags `flags m`: A in
Accumulator mode; in a memory mode exactly one read and one write of the same address, A unchanged. -/
def ModifiesThen (i : Instr) (s : State) (value : Byte → Byte) (flags : Byte → Flags) : Prop :=
  (i.operand = .accumulator →
    exec i s = .next { s with a := value s.a, flags := flags s.a, pc := pcAfter i s }) ∧
  ∀ m, i.operand = .memory m →
    (∀ e u b v w, effAddr m s = .ok (e, u) → memRead e.addr u = .ok (b, v) → memWrite e.addr (value b) v = .ok w →
      exec i s = .next { w with flags := flags b, pc := pcAfter i s } ∧ SameRegisters s w) ∧
    (∀ e u b v, effAddr m s = .ok (e, u) → memRead e.addr u = .ok (b, v) → ∃ w, memWrite e.addr (value b) v = .ok w) ∧
    (∀ f, effAddr m s = .error f → exec i s = .fault f ∧ NothingCommitted s f) ∧
    ∀ e u f, effAddr m s = .ok (e, u) → memRead e.addr u = .error f → exec i s = .fault f ∧ NothingCommitted s f

/-- The state with the decimal-mode flag set to `b`. -/
def withD (b : Bool) (s : State) : State := s.setFlags { s.flags with d := b }

/-- The state with the Interrupt-disable flag set to `b`. -/
def withI (b : Bool) (s : State) : State := s.setFlags { s.flags with i := b }

/-- An outcome with a function applied to the state it carries. -/
def onState (g : State → State) : Host.Outcome State Fault Refusal → Host.Outcome State Fault Refusal
  | .next t => .next (g t)
  | .fault (.busFault addr kind left) => .fault (.busFault addr kind (g left))
  | .refused q => .refused q

end Sys2Proof.Machine
end

