-- ==== Sys2Proof/Certificates/Slice0/Obligations.lean ====
section
/-! DEFINITION. The statements for the provers. A statement that rests on a value or a behaviour which the spec marks as
its own decision or general knowledge (D, G), or on a choice of this model (log), says so. -/

open Sys2Proof Sys2Proof.Machine

/-! ### Encoding (30_encoding.md) -/

/-- For every instruction, with every operand at every value: decoding its bytes gives it back, and leaves what follows.
The opcode values are the spec's general knowledge (G1, D12). -/
def Obligations.DecodeUndoesEncode : Prop :=
  ∀ (i : Instr) (rest : List Byte), decode (encode i ++ rest) = .ok (i, rest)

/-- Every byte string that decodes is the encoding of the instruction it decodes to, followed by the rest. -/
def Obligations.EncodeUndoesDecode : Prop :=
  ∀ (bs rest : List Byte) (i : Instr), decode bs = .ok (i, rest) → bs = encode i ++ rest

/-- R51: every byte value is an opcode; its catalog mode alone gives the number of operand bytes; nothing is
undecodable. -/
def Obligations.EveryByteIsAnOpcode : Prop :=
  ∀ (op b1 b2 : Byte) (rest : List Byte),
    ∃ i, decode (op :: b1 :: b2 :: rest) = .ok (i, (b1 :: b2 :: rest).drop (catalog op).mode.operandBytes) ∧
      i.opcode = op

/-- R50, S1: the catalog returns for every opcode a mnemonic, a mode and a number of operand bytes in 0, 1, 2 that agree
with the instruction the opcode decodes to, and the form is one of the catalog's. -/
def Obligations.CatalogDescribesEveryOpcode : Prop :=
  ∀ op b1 b2 : Byte,
    (assemble op b1 b2).opcode = op ∧ (assemble op b1 b2).mnemonic = (catalog op).mnemonic ∧
      (assemble op b1 b2).operand.mode = (catalog op).mode ∧ (assemble op b1 b2).wf = true ∧
      (encode (assemble op b1 b2)).length = 1 + (catalog op).mode.operandBytes ∧
      (catalog op).mode.operandBytes ≤ 2

/-- Words written out from R54, R57 and R58 (general knowledge, G1) decode to the instructions they stand for. -/
def Obligations.OpcodeWordsDecode : Prop :=
  decode [0x69, 0x50] = .ok (.adcImm 0x50, []) ∧ decode [0x7D, 0xF0, 0x12] = .ok (.adcAbsX 0x12F0, []) ∧
    decode [0x46, 0x10] = .ok (.lsrZp 0x10, []) ∧ decode [0x91, 0x20] = .ok (.staIndY 0x20, []) ∧
    decode [0x6C, 0xFF, 0x30] = .ok (.jmpInd 0x30FF, []) ∧ decode [0xD0, 0xF9] = .ok (.bne 0xF9, []) ∧
    decode [0x28] = .ok (.plp, []) ∧ decode [0xEB, 0x01] = .ok (.sbcEB 0x01, [])

/-! ### The step (40_addressing.md section 1, 60_exceptions.md) -/

/-- When the storage cells at PC and after it (modulo 2^16) hold the bytes of `i`, a step is `exec i`, run after the
fetch reads of those bytes and nothing else. -/
def Obligations.StepRunsDecodedInstruction : Prop :=
  ∀ (s : State) (i : Instr),
    (∀ k (h : k < (encode i).length), inspectCell (s.pc + BitVec.ofNat 16 k) s = some (encode i)[k]) →
    step s = exec i { s with
      trace := (encode i).mapIdx fun k b => Transaction.read (s.pc + BitVec.ofNat 16 k) b
      outcome := .done }

/-- Every step has one of the three outcomes, and no step is refused. A completed step of a documented opcode reports
Done and records nothing; of an undocumented one it reports and records `DoneDiag(op, start)`. A step that faults
reports and records BusFault at an address that leads nowhere. The names of the outcomes are the spec's decision D7, the
sticky record its advice D30. -/
def Obligations.StepHasOneOutcome : Prop :=
  ∀ s : State,
    (∃ i u t, fetch s.beginStep = .ok (i, u) ∧ step s = .next t ∧
      (i.mnemonic.documented = true → t.outcome = .done ∧ t.record = s.record) ∧
      (i.mnemonic.documented = false →
        t.outcome = .doneDiag i.opcode s.pc ∧ t.record = s.record ++ [.doneDiag i.opcode s.pc])) ∨
    ∃ addr kind left, step s = .fault (.busFault addr kind left) ∧ translateAddr s.platform addr = .nowhere ∧
      left.outcome = .busFault addr kind ∧ left.record = s.record ++ [.busFault addr kind]

/-- A step that ends in BusFault does not write PC, which still holds `start` (D5); a fault in the fetch commits nothing
(first row of R172); and no step changes the platform's windows and handlers. -/
def Obligations.FaultLeavesStart : Prop :=
  ∀ s : State,
    (∀ f, step s = .fault f → f.left.pc = s.pc ∧ f.left.platform = s.platform) ∧
    (∀ f, fetch s.beginStep = .error f → step s = .fault f ∧ NothingCommitted s f) ∧
    ∀ t, step s = .next t → t.platform = s.platform

/-- A storage cell changes in a step only where the step issues a write transaction at an address that leads to it,
whether the step completes or faults. -/
def Obligations.CellsChangeOnlyByBusWrites : Prop :=
  ∀ (s t : State), (step s = .next t ∨ ∃ f, step s = .fault f ∧ t = f.left) →
    ∀ n, t.mem.read n ≠ s.mem.read n →
      ∃ addr v, Transaction.write addr v ∈ t.trace ∧ translateAddr s.platform addr = .cell n

/-! ### Invariants -/

/-- Every step from a state whose storage cells are in canonical form leaves them so, whether it completes or faults.
The canonical form (addresses rising, no entry equal to the launch byte) is this model's choice, not a rule of the spec
(log 1, DESIGN CHOICE); that cells are bytes at addresses below 65536 is R22. -/
def Obligations.StepKeepsInvariant : Prop :=
  ∀ s : State, s.Inv → (∀ t, step s = .next t → t.Inv) ∧ ∀ f, step s = .fault f → f.left.Inv

/-- The invariant holds after reset. Both the canonical form and the empty memory of State.reset are this model's choice
(log 1 and log 7, DESIGN CHOICE): R24 leaves memory unspecified. -/
def Obligations.ResetHasInvariant : Prop := State.reset.Inv

/-! ### The bus (20_memory.md) -/

/-- Translation depends on the raw address alone and is the same for reads and writes (R32). Whether a read is answered
in one state is whether a write is answered in any state of the same platform; what is written to a cell at one address
is read back through every address with the same cell (R44); and every other read answers the byte it answered before
the write, or is answered as little. For a read that a device handler answers, the last clause is this model's inference
(log 3, DEDUCED): the free value depends only on the accesses that handlers have seen, of which a cell write is none;
R37 assumes nothing of a handler. -/
def Obligations.TranslationIsReadWriteSymmetric : Prop :=
  ∀ (s : State) (addr : Addr) (v : Byte),
    (∀ s' : State, s'.platform = s.platform →
      ((∃ b u, memRead addr s = .ok (b, u)) ↔ ∃ t, memWrite addr v s' = .ok t)) ∧
    ∀ t n, translateAddr s.platform addr = .cell n → memWrite addr v s = .ok t →
      t.platform = s.platform ∧
      ∀ other,
        (translateAddr s.platform other = .cell n →
          inspectCell other t = some v ∧ ∃ u, memRead other t = .ok (v, u)) ∧
        (translateAddr s.platform other ≠ .cell n →
          inspectCell other t = inspectCell other s ∧
            ∀ b, (∃ u, memRead other t = .ok (b, u)) ↔ ∃ u, memRead other s = .ok (b, u))

/-- R33: inside the RAM window, and outside reserved windows, an address leads to the base region's cell modulo the
window size; so what is written through any image is read back through every image. Where the device window holds such
an address too, that the RAM window wins is this model's choice (log 10, DESIGN CHOICE). -/
def Obligations.RamWindowMirrors : Prop :=
  ∀ (p : Platform) (w : RamWindow), p.ram = some w →
    (∀ addr : Addr, placeInRsv1 p addr.toNat = none → placeInRsv2 p addr.toNat = none →
      w.base ≤ addr.toNat → addr.toNat < w.base + (1 + 3) * w.size →
      translateAddr p addr = .cell (w.base + (addr.toNat - w.base) % w.size)) ∧
    ∀ (s t : State) (addr image : Addr) (v : Byte), s.platform = p →
      (∀ a ∈ [addr, image], placeInRsv1 p a.toNat = none ∧ placeInRsv2 p a.toNat = none ∧
        w.base ≤ a.toNat ∧ a.toNat < w.base + (1 + 3) * w.size) →
      (addr.toNat - w.base) % w.size = (image.toNat - w.base) % w.size →
      memWrite addr v s = .ok t → ∃ u, memRead image t = .ok (v, u)

/-- R34: inside the device-register window, and outside the windows before it, an address leads to one of eight cells
modulo 8, plain storage: what is written through one image is read back through every other. -/
def Obligations.DeviceWindowMirrors : Prop :=
  ∀ (p : Platform) (w : DevWindow), p.dev = some w →
    (∀ addr : Addr, placeInRsv1 p addr.toNat = none → placeInRsv2 p addr.toNat = none → placeInRam p addr.toNat = none →
      w.base ≤ addr.toNat → addr.toNat ≤ w.windowEnd →
      translateAddr p addr = .cell (w.base + (addr.toNat - w.base) % 8)) ∧
    ∀ (s t : State) (addr image : Addr) (v : Byte), s.platform = p →
      (∀ a ∈ [addr, image], placeInRsv1 p a.toNat = none ∧ placeInRsv2 p a.toNat = none ∧ placeInRam p a.toNat = none ∧
        w.base ≤ a.toNat ∧ a.toNat ≤ w.windowEnd) →
      (addr.toNat - w.base) % 8 = (image.toNat - w.base) % 8 →
      memWrite addr v s = .ok t → ∃ u, memRead image t = .ok (v, u)

/-- The default map, whose numbers are the spec's general knowledge (G8): RAM below 0x2000 in images of 0x0800 bytes, so
that 0x0000 is read at 0x0800, 0x1000 and 0x1800; eight device cells up to 0x3FFF; every other address its own cell
(R35, the decision D18). That no reserved window is placed is this model's choice (log 2). -/
def Obligations.DefaultMapPlaces : Prop :=
  (∀ (p : Platform) (addr : Addr),
    placeInRsv1 p addr.toNat = none → placeInRsv2 p addr.toNat = none → placeInRam p addr.toNat = none →
    placeInDev p addr.toNat = none → translateAddr p addr = .cell addr.toNat) ∧
  (∀ addr : Addr,
    (addr.toNat < 0x2000 → translateAddr Config.defaultPlatform addr = .cell (addr.toNat % 0x0800)) ∧
    (0x2000 ≤ addr.toNat → addr.toNat < 0x4000 →
      translateAddr Config.defaultPlatform addr = .cell (0x2000 + addr.toNat % 8)) ∧
    (0x4000 ≤ addr.toNat → translateAddr Config.defaultPlatform addr = .cell addr.toNat)) ∧
  ∀ (s t : State) (v : Byte), s.platform = Config.defaultPlatform → memWrite 0x0000 v s = .ok t →
    ∀ mirror ∈ [0x0800, 0x1000, 0x1800], ∃ u, memRead mirror t = .ok (v, u)

/-- An address of a reserved window leads to its handler at its offset from the window's lowest address, or nowhere,
and never to a storage cell, whatever other window it overlaps (R36; the offset is D25, the precedence D18). Which
address is RSV1's lowest is this model's inference (log 11, DEDUCED), and RSV1 before RSV2 its choice (log 10, DESIGN
CHOICE). -/
def Obligations.ReservedWindowsNeverAlias : Prop :=
  ∀ (p : Platform) (addr : Addr),
    (∀ w, p.rsv1 = some w →
      (addr.toNat = w.single ∨ (w.range.first ≤ addr.toNat ∧ addr.toNat ≤ w.range.last)) →
      translateAddr p addr = if w.handled then .device .rsv1 (addr.toNat - rsv1Base w) else .nowhere) ∧
    (∀ w, p.rsv2 = some w → placeInRsv1 p addr.toNat = none →
      w.range.first ≤ addr.toNat → addr.toNat ≤ w.range.last →
      translateAddr p addr = if w.handled then .device .rsv2 (addr.toNat - w.range.first) else .nowhere)

/-- A handled access is handed to the device; the byte read is whatever the handler answers, a free value (R37, log 3).
That it changes no register and no cell is this model's inference (log 19, DEDUCED, from D27). An access at an address
that leads nowhere raises BusFault with the raw address and kind, stores nothing and changes no register (R171). The
transactions, outcome and record named are the model's own fields (log 5, DESIGN CHOICE). -/
def Obligations.ReservedAccessReachesNoCell : Prop :=
  ∀ (s : State) (addr : Addr) (v : Byte),
    (∀ w off, translateAddr s.platform addr = .device w off →
      (∃ b, memRead addr s = .ok (b, { s with
        trace := s.trace ++ [.read addr b], deviceLog := s.deviceLog ++ [.read w off b] })) ∧
      memWrite addr v s = .ok { s with
        trace := s.trace ++ [.write addr v], deviceLog := s.deviceLog ++ [.write w off v] }) ∧
    (translateAddr s.platform addr = .nowhere →
      memRead addr s = .error (.busFault addr .read { s with
        trace := s.trace ++ [.readFault addr], outcome := .busFault addr .read
        record := s.record ++ [.busFault addr .read] }) ∧
      memWrite addr v s = .error (.busFault addr .write { s with
        trace := s.trace ++ [.writeFault addr v], outcome := .busFault addr .write
        record := s.record ++ [.busFault addr .write] }))

/-- R39: on FLAT_BUS every address is its own cell and no BusFault can occur: every step completes. -/
def Obligations.FlatBusNeverFaults : Prop :=
  (∀ addr : Addr, translateAddr Config.flatBus addr = .cell addr.toNat) ∧
    ∀ s : State, s.platform = Config.flatBus → ∃ t, step s = .next t

/-! ### The resolver (40_addressing.md) -/

/-- R77, R78, R79: the zero-page modes have one operand byte and resolve inside page 0, modulo 256, without a read and
without a crossing; among the documented opcodes only LDX and STX have ZeroPageY (their opcode values are the spec's
general knowledge, G1). -/
def Obligations.ZeroPageModesStayInPageZero : Prop :=
  (∀ (z : Byte) (s : State),
    (∃ e, effAddr (.zeroPage z) s = .ok (e, s) ∧ e.addr.toNat = z.toNat ∧ e.cross = false) ∧
    (∃ e, effAddr (.zeroPageX z) s = .ok (e, s) ∧ e.addr.toNat = (z.toNat + s.x.toNat) % 256 ∧ e.cross = false) ∧
    ∃ e, effAddr (.zeroPageY z) s = .ok (e, s) ∧ e.addr.toNat = (z.toNat + s.y.toNat) % 256 ∧ e.cross = false) ∧
  (∀ m ∈ [Mode.zeroPage, .zeroPageX, .zeroPageY], m.operandBytes = 1) ∧
  ∀ (i : Instr) (z : Byte), i.mnemonic.documented = true → i.operand = .memory (.zeroPageY z) →
    i = .ldxZpY z ∧ i.opcode = 0xB6 ∨ i = .stxZpY z ∧ i.opcode = 0x96

/-- The absolute modes: the address plus the unsigned index modulo 2^16 (the wrap is D19), without a read; the crossing
bit says whether the high byte differs from that of the base. -/
def Obligations.AbsoluteModesAddTheIndex : Prop :=
  ∀ (base : Addr) (s : State),
    effAddr (.absolute base) s = .ok (⟨base, false⟩, s) ∧
    (∃ e, effAddr (.absoluteX base) s = .ok (e, s) ∧ e.addr.toNat = (base.toNat + s.x.toNat) % 65536 ∧
      (e.cross = true ↔ hiByte e.addr ≠ hiByte base)) ∧
    ∃ e, effAddr (.absoluteY base) s = .ok (e, s) ∧ e.addr.toNat = (base.toNat + s.y.toNat) % 65536 ∧
      (e.cross = true ↔ hiByte e.addr ≠ hiByte base)

/-- R83: the Indirect mode reads the low byte at the pointer and the high byte in the pointer's own page; a faulting
pointer read is the fault of the mode. JMP alone has this mode. -/
def Obligations.IndirectStaysInThePointersPage : Prop :=
  (∀ (i : Instr) (p : Addr), i.operand = .memory (.indirect p) → i = .jmpInd p) ∧
  ∀ (p : Addr) (s : State),
    (∀ lo u hi w, memRead p s = .ok (lo, u) → memRead (word (hiByte p) (loByte p + 1)) u = .ok (hi, w) →
      effAddr (.indirect p) s = .ok (⟨word hi lo, false⟩, w)) ∧
    (∀ f, memRead p s = .error f → effAddr (.indirect p) s = .error f) ∧
    (∀ lo u f, memRead p s = .ok (lo, u) → memRead (word (hiByte p) (loByte p + 1)) u = .error f →
      effAddr (.indirect p) s = .error f) ∧
    hiByte (word (hiByte p) (loByte p + 1)) = hiByte p ∧
    (loByte p ≠ 0xFF → word (hiByte p) (loByte p + 1) = p + 1) ∧
    (p = 0x30FF → word (hiByte p) (loByte p + 1) = 0x3000)

/-- IndirectX and IndirectY: the pointer's two bytes, low first, both in page 0 (the wrap of the second is G14, D19);
then X before, or Y after, the dereference. -/
def Obligations.ZeroPagePointersWrap : Prop :=
  ∀ (z : Byte) (s : State),
    (∀ lo u hi w, memRead ((z + s.x).setWidth 16) s = .ok (lo, u) →
      memRead ((z + s.x + 1).setWidth 16) u = .ok (hi, w) →
      effAddr (.indirectX z) s = .ok (⟨word hi lo, false⟩, w)) ∧
    ∀ lo u hi w, memRead (z.setWidth 16) s = .ok (lo, u) → memRead ((z + 1).setWidth 16) u = .ok (hi, w) →
      ∃ e, effAddr (.indirectY z) s = .ok (e, w) ∧ e.addr.toNat = (hi.toNat * 256 + lo.toNat + s.y.toNat) % 65536 ∧
        (e.cross = true ↔ 256 ≤ lo.toNat + s.y.toNat)

/-- "Resolving an operand location never itself mutates memory" (R86): the resolver changes no register, flag or cell,
and issues at most two transactions, all reads. What is then loaded is the operand byte itself in Immediate mode, A in
Accumulator mode, and the byte of the storage cell at the effective address in a memory mode, by one more read. -/
def Obligations.ResolverOnlyReads : Prop :=
  (∀ (o : Operand) (s t : State) (r : Resolved), resolve o s = .ok (r, t) →
    Observed s t ∧ ∃ l, t.trace = s.trace ++ l ∧ l.length ≤ 2 ∧ ∀ x ∈ l, ∃ addr v, x = Transaction.read addr v) ∧
  ∀ s : State,
    (∀ v, readOperand (.immediate v) s = .ok (v, s)) ∧ readOperand .accumulator s = .ok (s.a, s) ∧
    ∀ m e u b, effAddr m s = .ok (e, u) → inspectCell e.addr s = some b →
      readOperand (.memory m) s = .ok (b, { u with trace := u.trace ++ [.read e.addr b] })

/-- R87, R88: Push writes at `STACK_PAGE:S` and then decrements S; Pull increments S and then reads; both modulo 256. A
faulting push leaves S, a faulting pull leaves it incremented. Where the stack cell is storage, pulling what was pushed
gives it back and restores S. -/
def Obligations.PushThenPullRestores : Prop :=
  ∀ (v : Byte) (s : State),
    (∀ t, memWrite (word Config.stackPage s.sp) v s = .ok t → push v s = .ok { t with sp := s.sp - 1 }) ∧
    (∀ f, memWrite (word Config.stackPage s.sp) v s = .error f → push v s = .error f ∧ f.left.sp = s.sp) ∧
    (∀ b t, memRead (word Config.stackPage (s.sp + 1)) { s with sp := s.sp + 1 } = .ok (b, t) →
      pull s = .ok (b, t) ∧ t.sp = s.sp + 1) ∧
    (∀ f, memRead (word Config.stackPage (s.sp + 1)) { s with sp := s.sp + 1 } = .error f →
      pull s = .error f ∧ f.left.sp = s.sp + 1) ∧
    ∀ t, IsStorage s.platform (word Config.stackPage s.sp) → push v s = .ok t →
      ∃ u, pull t = .ok (v, u) ∧ u.sp = s.sp ∧ u.mem = t.mem

/-! ### Arithmetic and compare (41_arithmetic_compare.md) -/

/-- R90, for every ADC form. -/
def Obligations.AdcAddsWithCarry : Prop :=
  ∀ (i : Instr) (s : State), i.mnemonic = .adc → ReadsThen i s fun m u =>
    let sum : BitVec 9 := s.a.setWidth 9 + m.setWidth 9 + (if s.flags.c then 1 else 0)
    let r : Byte := sum.setWidth 8
    { u with
      a := r
      flags := { s.flags with
        c := sum.getLsbD 8
        v := (~~~(s.a ^^^ m) &&& (s.a ^^^ r)).getLsbD 7
        n := r.getLsbD 7
        z := decide (r = 0) } }

/-- R91, for every SBC form: as ADC, with the one's complement of the operand. -/
def Obligations.SbcAddsTheComplement : Prop :=
  ∀ (i : Instr) (s : State), i.mnemonic = .sbc → ReadsThen i s fun m u =>
    let sum : BitVec 9 := s.a.setWidth 9 + (~~~m).setWidth 9 + (if s.flags.c then 1 else 0)
    let r : Byte := sum.setWidth 8
    { u with
      a := r
      flags := { s.flags with
        c := sum.getLsbD 8
        v := ((s.a ^^^ m) &&& (s.a ^^^ r)).getLsbD 7
        n := r.getLsbD 7
        z := decide (r = 0) } }

/-- R96: SBC of an operand is ADC of its complement, in A and every flag; in SBC the Carry means "no borrow". -/
def Obligations.SubtractionLaw : Prop :=
  ∀ (m : Byte) (s : State),
    exec (.sbcImm m) s = exec (.adcImm (~~~m)) s ∧
    ∃ t, exec (.sbcImm m) s = .next t ∧
      (s.flags.c = true → t.a = s.a - m) ∧ (s.flags.c = false → t.a = s.a - m - 1) ∧
      (t.flags.c = true ↔ m.toNat + (1 - s.flags.c.toNat) ≤ s.a.toNat)

/-- What the flags of an addition mean (R95): Carry is the unsigned overflow, Overflow the signed one, at once; the
result is the sum modulo 256 under both readings, whatever D is. -/
def Obligations.AddFlagsMeanOverflow : Prop :=
  ∀ (m : Byte) (s : State), ∃ t, exec (.adcImm m) s = .next t ∧
    t.a.toNat = (s.a.toNat + m.toNat + s.flags.c.toNat) % 256 ∧
    (t.flags.c = true ↔ 256 ≤ s.a.toNat + m.toNat + s.flags.c.toNat) ∧
    (t.flags.v = true ↔
      s.a.toInt + m.toInt + s.flags.c.toNat < -128 ∨ 127 < s.a.toInt + m.toInt + s.flags.c.toNat) ∧
    (t.flags.n = true ↔ 128 ≤ t.a.toNat) ∧ (t.flags.z = true ↔ t.a = 0)

/-- R92, R93, R94, for every form of CMP, CPX and CPY: C, Z and N from register minus operand, nothing stored. -/
def Obligations.ComparesWriteOnlyFlags : Prop :=
  ∀ (i : Instr) (s : State) (reg : Byte),
    (i.mnemonic = .cmp ∧ reg = s.a ∨ i.mnemonic = .cpx ∧ reg = s.x ∨ i.mnemonic = .cpy ∧ reg = s.y) →
    ReadsThen i s fun m u =>
      { u with flags := { s.flags with
        c := decide (m.toNat ≤ reg.toNat), z := decide (reg = m), n := (reg - m).getLsbD 7 } }

/-! ### Logic, shifts, rotates (42_logic_shift_rotate.md) -/

/-- R100, R101, R102, for every form of AND, ORA and EOR. -/
def Obligations.LogicWritesAccumulator : Prop :=
  ∀ (i : Instr) (s : State) (f : Byte → Byte → Byte),
    (i.mnemonic = .and ∧ (f = fun x y => x &&& y) ∨ i.mnemonic = .ora ∧ (f = fun x y => x ||| y) ∨
      i.mnemonic = .eor ∧ (f = fun x y => x ^^^ y)) →
    ReadsThen i s fun m u =>
      { u with
        a := f s.a m
        flags := { s.flags with n := (f s.a m).getLsbD 7, z := decide (f s.a m = 0) } }

/-- BIT, both forms: Z from `A & m`, N and V from the operand (general knowledge of the spec, R103, D13). -/
def Obligations.BitTestsOperand : Prop :=
  ∀ (i : Instr) (s : State), i.mnemonic = .bit → ReadsThen i s fun m u =>
    { u with flags := { s.flags with
      z := decide (s.a &&& m = 0), n := m.getLsbD 7, v := m.getLsbD 6 } }

/-- ASL and LSR, on A and on memory: Carry takes the bit shifted out, zero is shifted in. That the write cannot fault
once the read is done is this model's inference (log 22, DEDUCED), so the order of write and flags (D20) does not show
here. -/
def Obligations.ShiftsMoveOneBit : Prop :=
  ∀ (i : Instr) (s : State),
    (i.mnemonic = .asl → ModifiesThen i s (fun m => BitVec.ofNat 8 (2 * m.toNat)) fun m =>
      { s.flags with
        c := decide (128 ≤ m.toNat), n := m.getLsbD 6, z := decide (2 * m.toNat % 256 = 0) }) ∧
    (i.mnemonic = .lsr → ModifiesThen i s (fun m => BitVec.ofNat 8 (m.toNat / 2)) fun m =>
      { s.flags with c := decide (m.toNat % 2 = 1), n := false, z := decide (m.toNat / 2 = 0) })

/-- ROL and ROR, on A and on memory: the vacated bit is the old Carry, Carry takes the bit shifted out (the five modes
are G13). That the write cannot fault once the read is done is this model's inference (log 22, DEDUCED), so the order of
write and flags (D20) does not show here. -/
def Obligations.RotatesGoThroughCarry : Prop :=
  ∀ (i : Instr) (s : State),
    (i.mnemonic = .rol → ModifiesThen i s (fun m => BitVec.ofNat 8 (2 * m.toNat + s.flags.c.toNat)) fun m =>
      { s.flags with
        c := decide (128 ≤ m.toNat), n := m.getLsbD 6
        z := decide ((2 * m.toNat + s.flags.c.toNat) % 256 = 0) }) ∧
    (i.mnemonic = .ror → ModifiesThen i s (fun m => BitVec.ofNat 8 (m.toNat / 2 + 128 * s.flags.c.toNat)) fun m =>
      { s.flags with
        c := decide (m.toNat % 2 = 1), n := s.flags.c
        z := decide (m.toNat / 2 + 128 * s.flags.c.toNat = 0) })

/-! ### Increment, decrement, transfers, loads, stores (43_incdec_transfer_loadstore.md) -/

/-- INC and DEC, every form: modulo 256, N and Z only. That the write cannot fault once the read is done is this model's
inference (log 22, DEDUCED), so the order of write and flags (D20) does not show here. -/
def Obligations.MemoryStepsWrapAndKeepCarry : Prop :=
  ∀ (i : Instr) (s : State),
    (i.mnemonic = .inc → ModifiesThen i s (fun m => m + 1) fun m =>
      { s.flags with n := (m + 1).getLsbD 7, z := decide (m = 0xFF) }) ∧
    (i.mnemonic = .dec → ModifiesThen i s (fun m => m - 1) fun m =>
      { s.flags with n := (m - 1).getLsbD 7, z := decide (m = 0x01) })

/-- R112 to R115: the index registers step modulo 256, and N and Z follow the new value (that these four are
the members of the family is G11). -/
def Obligations.IndexStepsWrap : Prop :=
  ∀ s : State,
    exec .inx s = .next { s with
      x := s.x + 1, flags := { s.flags with n := (s.x + 1).getLsbD 7, z := decide (s.x = 0xFF) }, pc := s.pc + 1 } ∧
    exec .iny s = .next { s with
      y := s.y + 1, flags := { s.flags with n := (s.y + 1).getLsbD 7, z := decide (s.y = 0xFF) }, pc := s.pc + 1 } ∧
    exec .dex s = .next { s with
      x := s.x - 1, flags := { s.flags with n := (s.x - 1).getLsbD 7, z := decide (s.x = 0x01) }, pc := s.pc + 1 } ∧
    exec .dey s = .next { s with
      y := s.y - 1, flags := { s.flags with n := (s.y - 1).getLsbD 7, z := decide (s.y = 0x01) }, pc := s.pc + 1 }

/-- R116 to R121: a transfer copies the register and recomputes N and Z; the transfer into S updates no
flag (that these six are the members of the family is G11). -/
def Obligations.TransfersCopy : Prop :=
  ∀ s : State,
    exec .tax s = .next { s with
      x := s.a, flags := { s.flags with n := s.a.getLsbD 7, z := decide (s.a = 0) }, pc := s.pc + 1 } ∧
    exec .tay s = .next { s with
      y := s.a, flags := { s.flags with n := s.a.getLsbD 7, z := decide (s.a = 0) }, pc := s.pc + 1 } ∧
    exec .txa s = .next { s with
      a := s.x, flags := { s.flags with n := s.x.getLsbD 7, z := decide (s.x = 0) }, pc := s.pc + 1 } ∧
    exec .tya s = .next { s with
      a := s.y, flags := { s.flags with n := s.y.getLsbD 7, z := decide (s.y = 0) }, pc := s.pc + 1 } ∧
    exec .tsx s = .next { s with
      x := s.sp, flags := { s.flags with n := s.sp.getLsbD 7, z := decide (s.sp = 0) }, pc := s.pc + 1 } ∧
    exec .txs s = .next { s with sp := s.x, pc := s.pc + 1 }

/-- LDA, LDX and LDY, every form (general knowledge of the spec, D13). -/
def Obligations.LoadsWriteRegister : Prop :=
  ∀ (i : Instr) (s : State),
    (i.mnemonic = .lda → ReadsThen i s fun m u =>
      { u with a := m, flags := { s.flags with n := m.getLsbD 7, z := decide (m = 0) } }) ∧
    (i.mnemonic = .ldx → ReadsThen i s fun m u =>
      { u with x := m, flags := { s.flags with n := m.getLsbD 7, z := decide (m = 0) } }) ∧
    (i.mnemonic = .ldy → ReadsThen i s fun m u =>
      { u with y := m, flags := { s.flags with n := m.getLsbD 7, z := decide (m = 0) } })

/-- STA, STX and STY, every form (general knowledge, D13; no read of the destination, D3): after the resolver, one write
of the register at the effective address; no register or flag changes; where the address is storage, it reads the
register afterwards. A fault commits nothing. -/
def Obligations.StoresWriteOneByte : Prop :=
  ∀ (i : Instr) (s : State) (m : MemOperand) (reg : Byte), i.operand = .memory m →
    (i.mnemonic = .sta ∧ reg = s.a ∨ i.mnemonic = .stx ∧ reg = s.x ∨ i.mnemonic = .sty ∧ reg = s.y) →
    (∀ e u, effAddr m s = .ok (e, u) → Answers s.platform e.addr →
      ∃ t, exec i s = .next t ∧ SameRegisters s t ∧ t.pc = pcAfter i s ∧
        t.trace = u.trace ++ [.write e.addr reg] ∧
        (IsStorage s.platform e.addr → inspectCell e.addr t = some reg)) ∧
    (∀ e u, effAddr m s = .ok (e, u) → ¬ Answers s.platform e.addr →
      ∃ f, exec i s = .fault f ∧ NothingCommitted s f) ∧
    ∀ f, effAddr m s = .error f → exec i s = .fault f ∧ NothingCommitted s f

/-! ### Control transfer (44_branch_jump.md) -/

/-- The eight branches: taken exactly when the flag condition holds, to `start + 2 + offset` with the offset signed,
modulo 2^16; else to `start + 2`; nothing else changes (which flag each tests is G11, the wrap D19). -/
def Obligations.BranchesTestOneFlag : Prop :=
  ∀ (off : Byte) (s : State),
    let taken := s.setPc (BitVec.ofInt 16 (s.pc.toNat + 2 + off.toInt))
    let fallen := s.setPc (s.pc + 2)
    exec (.bcc off) s = .next (if s.flags.c = false then taken else fallen) ∧
    exec (.bcs off) s = .next (if s.flags.c = true then taken else fallen) ∧
    exec (.beq off) s = .next (if s.flags.z = true then taken else fallen) ∧
    exec (.bne off) s = .next (if s.flags.z = false then taken else fallen) ∧
    exec (.bmi off) s = .next (if s.flags.n = true then taken else fallen) ∧
    exec (.bpl off) s = .next (if s.flags.n = false then taken else fallen) ∧
    exec (.bvc off) s = .next (if s.flags.v = false then taken else fallen) ∧
    exec (.bvs off) s = .next (if s.flags.v = true then taken else fallen)

/-- JMP, both forms: PC from the resolved address, whose cell is not read (general knowledge, D13). -/
def Obligations.JmpGoesToTheAddress : Prop :=
  ∀ s : State,
    (∀ addr : Addr, exec (.jmpAbs addr) s = .next (s.setPc addr)) ∧
    ∀ p : Addr,
      (∀ e u, effAddr (.indirect p) s = .ok (e, u) → exec (.jmpInd p) s = .next (u.setPc e.addr)) ∧
      ∀ f, effAddr (.indirect p) s = .error f → exec (.jmpInd p) s = .fault f ∧ NothingCommitted s f

/-- JSR: `start + 2` is pushed, high byte first, S decreases by 2, PC is the target. RTS: two pulls, low byte first, and
one added (general knowledge, D14). -/
def Obligations.JsrPushesAndRtsPulls : Prop :=
  ∀ s : State,
    (∀ addr : Addr,
      Answers s.platform (word Config.stackPage s.sp) → Answers s.platform (word Config.stackPage (s.sp - 1)) →
      ∃ t, exec (.jsrAbs addr) s = .next t ∧ t.pc = addr ∧ t.sp = s.sp - 2 ∧ t.a = s.a ∧ t.x = s.x ∧ t.y = s.y ∧
        t.flags = s.flags ∧
        t.trace = s.trace ++ [.write (word Config.stackPage s.sp) (hiByte (s.pc + 2)),
          .write (word Config.stackPage (s.sp - 1)) (loByte (s.pc + 2))]) ∧
    (Answers s.platform (word Config.stackPage (s.sp + 1)) → Answers s.platform (word Config.stackPage (s.sp + 2)) →
      ∃ t lo hi, exec .rts s = .next t ∧ t.pc = word hi lo + 1 ∧ t.sp = s.sp + 2 ∧ t.a = s.a ∧ t.x = s.x ∧
        t.y = s.y ∧ t.flags = s.flags ∧ t.mem = s.mem ∧
        t.trace =
          s.trace ++ [.read (word Config.stackPage (s.sp + 1)) lo, .read (word Config.stackPage (s.sp + 2)) hi] ∧
        (∀ b, inspectCell (word Config.stackPage (s.sp + 1)) s = some b → lo = b) ∧
        ∀ b, inspectCell (word Config.stackPage (s.sp + 2)) s = some b → hi = b)

/-- A subroutine call and its return: where the two stack bytes are storage and different cells, RTS after JSR continues
at the instruction after the JSR, with every register and flag as before (general knowledge, D14). -/
def Obligations.RtsUndoesJsr : Prop :=
  ∀ (addr : Addr) (s t : State),
    IsStorage s.platform (word Config.stackPage s.sp) → IsStorage s.platform (word Config.stackPage (s.sp - 1)) →
    translateAddr s.platform (word Config.stackPage s.sp) ≠ translateAddr s.platform (word Config.stackPage (s.sp - 1)) →
    exec (.jsrAbs addr) s = .next t →
    ∃ u, exec .rts t = .next u ∧ u.pc = s.pc + 3 ∧ SameRegisters s u ∧ u.mem = t.mem

/-! ### Stack, flags, system (45_stack_flags_system.md) -/

/-- The status byte: a push composes bits 4 and 5, a pull drops them, and the six flags survive (the layout is the
spec's general knowledge, G4, D9, D10). -/
def Obligations.StatusByteKeepsSixFlags : Prop :=
  (∀ (f : Flags) (b4 : Bool), Flags.ofByte (f.pByte b4) = f ∧ (f.pByte b4).getLsbD 4 = b4 ∧
    (f.pByte b4).getLsbD 5 = true ∧ (f.pByte b4).getLsbD 0 = f.c ∧ (f.pByte b4).getLsbD 1 = f.z ∧
    (f.pByte b4).getLsbD 2 = f.i ∧ (f.pByte b4).getLsbD 3 = f.d ∧ (f.pByte b4).getLsbD 6 = f.v ∧
    (f.pByte b4).getLsbD 7 = f.n) ∧
  ∀ v w : Byte, v &&& 0xCF = w &&& 0xCF → Flags.ofByte v = Flags.ofByte w

/-- PHA and PHP push A and the status byte with both convention bits set (general knowledge, D9, D13). -/
def Obligations.PushesStoreRegister : Prop :=
  ∀ s : State, Answers s.platform (word Config.stackPage s.sp) →
    (∃ t, exec .pha s = .next t ∧ t.sp = s.sp - 1 ∧ t.pc = s.pc + 1 ∧ t.a = s.a ∧ t.x = s.x ∧ t.y = s.y ∧
      t.flags = s.flags ∧ t.trace = s.trace ++ [.write (word Config.stackPage s.sp) s.a] ∧
      (IsStorage s.platform (word Config.stackPage s.sp) →
        inspectCell (word Config.stackPage s.sp) t = some s.a)) ∧
    ∃ t, exec .php s = .next t ∧ t.sp = s.sp - 1 ∧ t.pc = s.pc + 1 ∧ t.a = s.a ∧ t.x = s.x ∧ t.y = s.y ∧
      t.flags = s.flags ∧ t.trace = s.trace ++ [.write (word Config.stackPage s.sp) (s.flags.pByte true)] ∧
      (IsStorage s.platform (word Config.stackPage s.sp) →
        inspectCell (word Config.stackPage s.sp) t = some (s.flags.pByte true))

/-- PLA and PLP pull into A (with N and Z) and into the six flags (general knowledge, D13, and R18). -/
def Obligations.PullsLoadRegister : Prop :=
  ∀ s : State, Answers s.platform (word Config.stackPage (s.sp + 1)) →
    ∃ v u, memRead (word Config.stackPage (s.sp + 1)) { s with sp := s.sp + 1 } = .ok (v, u) ∧
      exec .pla s = .next { u with
        a := v, flags := { s.flags with n := v.getLsbD 7, z := decide (v = 0) }, pc := s.pc + 1 } ∧
      exec .plp s = .next { u with
        flags := { c := v.getLsbD 0, z := v.getLsbD 1, i := v.getLsbD 2, d := v.getLsbD 3, v := v.getLsbD 6
                   n := v.getLsbD 7 }
        pc := s.pc + 1 } ∧
      Observed { s with sp := s.sp + 1 } u ∧
      ∀ b, inspectCell (word Config.stackPage (s.sp + 1)) s = some b → v = b

/-- The seven flag instructions and NOP: exactly one flag is written, or none (general knowledge, D13). -/
def Obligations.FlagInstructionsWriteOneFlag : Prop :=
  ∀ s : State,
    exec .clc s = .next { s with flags := { s.flags with c := false }, pc := s.pc + 1 } ∧
    exec .sec s = .next { s with flags := { s.flags with c := true }, pc := s.pc + 1 } ∧
    exec .cli s = .next { s with flags := { s.flags with i := false }, pc := s.pc + 1 } ∧
    exec .sei s = .next { s with flags := { s.flags with i := true }, pc := s.pc + 1 } ∧
    exec .cld s = .next { s with flags := { s.flags with d := false }, pc := s.pc + 1 } ∧
    exec .sed s = .next { s with flags := { s.flags with d := true }, pc := s.pc + 1 } ∧
    exec .clv s = .next { s with flags := { s.flags with v := false }, pc := s.pc + 1 } ∧
    exec .nop s = .next { s with pc := s.pc + 1 }

/-- BRK, the software trap: `start + 2` high byte first and then the status byte with bit 4 set are pushed, I is set
after that push, and PC is the word at BRK_VECTOR; A, X, Y and the other flags stay (general knowledge, D14, D29). -/
def Obligations.BrkEntersTrap : Prop :=
  ∀ s : State,
    Answers s.platform (word Config.stackPage s.sp) → Answers s.platform (word Config.stackPage (s.sp - 1)) →
    Answers s.platform (word Config.stackPage (s.sp - 2)) → Answers s.platform Config.brkVector →
    Answers s.platform (Config.brkVector + 1) →
    ∃ t lo hi, exec .brk s = .next t ∧ t.pc = word hi lo ∧ t.sp = s.sp - 3 ∧ t.a = s.a ∧ t.x = s.x ∧ t.y = s.y ∧
      t.flags = { s.flags with i := true } ∧
      t.trace = s.trace ++ [.write (word Config.stackPage s.sp) (hiByte (s.pc + 2)),
        .write (word Config.stackPage (s.sp - 1)) (loByte (s.pc + 2)),
        .write (word Config.stackPage (s.sp - 2)) (s.flags.pByte true),
        .read Config.brkVector lo, .read (Config.brkVector + 1) hi] ∧
      (∀ b, inspectCell Config.brkVector t = some b → lo = b) ∧
      ∀ b, inspectCell (Config.brkVector + 1) t = some b → hi = b

/-- RTI: the six flags from the first pulled byte, then PC, low byte first, nothing added (general knowledge, D14). -/
def Obligations.RtiReturnsFromTrap : Prop :=
  ∀ s : State,
    Answers s.platform (word Config.stackPage (s.sp + 1)) → Answers s.platform (word Config.stackPage (s.sp + 2)) →
    Answers s.platform (word Config.stackPage (s.sp + 3)) →
    ∃ t p lo hi, exec .rti s = .next t ∧ t.pc = word hi lo ∧ t.sp = s.sp + 3 ∧ t.a = s.a ∧ t.x = s.x ∧
      t.y = s.y ∧ t.flags = Flags.ofByte p ∧ t.mem = s.mem ∧
      t.trace = s.trace ++ [.read (word Config.stackPage (s.sp + 1)) p,
        .read (word Config.stackPage (s.sp + 2)) lo, .read (word Config.stackPage (s.sp + 3)) hi] ∧
      (∀ b, inspectCell (word Config.stackPage (s.sp + 1)) s = some b → p = b) ∧
      (∀ b, inspectCell (word Config.stackPage (s.sp + 2)) s = some b → lo = b) ∧
      ∀ b, inspectCell (word Config.stackPage (s.sp + 3)) s = some b → hi = b

/-- A trap and its return: where the three stack bytes are storage and different cells, RTI from the state BRK leaves,
wherever its handler stands, continues at `start + 2` with every register and flag as before the BRK (D14). -/
def Obligations.RtiUndoesBrk : Prop :=
  ∀ (s t : State),
    IsStorage s.platform (word Config.stackPage s.sp) → IsStorage s.platform (word Config.stackPage (s.sp - 1)) →
    IsStorage s.platform (word Config.stackPage (s.sp - 2)) →
    translateAddr s.platform (word Config.stackPage s.sp) ≠ translateAddr s.platform (word Config.stackPage (s.sp - 1)) →
    translateAddr s.platform (word Config.stackPage s.sp) ≠ translateAddr s.platform (word Config.stackPage (s.sp - 2)) →
    translateAddr s.platform (word Config.stackPage (s.sp - 1)) ≠
      translateAddr s.platform (word Config.stackPage (s.sp - 2)) →
    exec .brk s = .next t →
    ∃ u, exec .rti t = .next u ∧ u.pc = s.pc + 2 ∧ SameRegisters s u ∧ u.mem = t.mem

/-- What is committed when a transaction faults, by class of instruction (R172): nothing, except that pushes before the
faulting one are stored, byte by byte at the addresses S, S-1 and S-2 of the stack page, with S down by as many and no
other cell changed; a faulting or completed pull has incremented S; BRK has set I exactly when the fault is a vector
read; and RTI has restored the flags once its first pull is done. -/
def Obligations.FaultsCommitWhatCameBefore : Prop :=
  ∀ (i : Instr) (s : State) (f : Fault), exec i s = .fault f →
    f.left.a = s.a ∧ f.left.x = s.x ∧ f.left.y = s.y ∧
    (i.mnemonic ∉ [.jsr, .brk, .pla, .plp, .rts, .rti] → NothingCommitted s f) ∧
    (i.mnemonic = .jsr → f.left.flags = s.flags ∧
      (FaultsAt f (word Config.stackPage s.sp) .write ∧ f.left.sp = s.sp ∧ LeavesStored s f [] ∨
        FaultsAt f (word Config.stackPage (s.sp - 1)) .write ∧ f.left.sp = s.sp - 1 ∧
          LeavesStored s f [(word Config.stackPage s.sp, hiByte (s.pc + 2))])) ∧
    (i.mnemonic = .brk →
      f.left.flags = s.flags ∧
        (FaultsAt f (word Config.stackPage s.sp) .write ∧ f.left.sp = s.sp ∧ LeavesStored s f [] ∨
          FaultsAt f (word Config.stackPage (s.sp - 1)) .write ∧ f.left.sp = s.sp - 1 ∧
            LeavesStored s f [(word Config.stackPage s.sp, hiByte (s.pc + 2))] ∨
          FaultsAt f (word Config.stackPage (s.sp - 2)) .write ∧ f.left.sp = s.sp - 2 ∧
            LeavesStored s f [(word Config.stackPage s.sp, hiByte (s.pc + 2)),
              (word Config.stackPage (s.sp - 1), loByte (s.pc + 2))]) ∨
      f.left.flags = { s.flags with i := true } ∧ f.left.sp = s.sp - 3 ∧
        (FaultsAt f Config.brkVector .read ∨ FaultsAt f (Config.brkVector + 1) .read) ∧
        LeavesStored s f [(word Config.stackPage s.sp, hiByte (s.pc + 2)),
          (word Config.stackPage (s.sp - 1), loByte (s.pc + 2)),
          (word Config.stackPage (s.sp - 2), s.flags.pByte true)]) ∧
    (i.mnemonic ∈ [.pla, .plp] → f.left.sp = s.sp + 1 ∧ f.left.flags = s.flags ∧ f.left.mem = s.mem) ∧
    (i.mnemonic = .rts →
      (f.left.sp = s.sp + 1 ∨ f.left.sp = s.sp + 2) ∧ f.left.flags = s.flags ∧ f.left.mem = s.mem) ∧
    (i.mnemonic = .rti → f.left.mem = s.mem ∧
      (f.left.sp = s.sp + 1 ∧ f.left.flags = s.flags ∨
        (f.left.sp = s.sp + 2 ∨ f.left.sp = s.sp + 3) ∧
          ∃ p u, pull s = .ok (p, u) ∧ f.left.flags = Flags.ofByte p))

/-! ### Undocumented opcodes (46_undocumented.md) -/

/-- Every one of the 105 undocumented opcodes: the resolver runs, nothing but the bus's record of its pointer reads
changes, the diagnostic is emitted with the opcode and `start`, and PC advances by the catalog length; a faulting
pointer read ends the step without diagnostic (that all 105 are no-ops is D6, that the resolver runs D3). -/
def Obligations.UndocumentedAreDiagnosedNoOps : Prop :=
  ∀ (i : Instr) (s : State), i.mnemonic.documented = false →
    (∀ r u, resolve i.operand s = .ok (r, u) →
      exec i s = .next { s with
        trace := u.trace
        deviceLog := u.deviceLog
        outcome := .doneDiag i.opcode s.pc
        record := s.record ++ [.doneDiag i.opcode s.pc]
        pc := pcAfter i s }) ∧
    (∀ f, resolve i.operand s = .error f → exec i s = .fault f ∧ NothingCommitted s f) ∧
    ((∀ z, i.operand ≠ .memory (.indirectX z) ∧ i.operand ≠ .memory (.indirectY z)) →
      ∃ t, exec i s = .next t ∧ t.trace = s.trace)

/-! ### Whole-machine rules -/

/-- On a platform where every access answers, every instruction completes: no instruction is refused and none faults.
PC then holds the override or `start` plus the instruction's bytes. -/
def Obligations.EveryInstructionCompletes : Prop :=
  ∀ (i : Instr) (s : State), AllAnswer s.platform →
    ∃ t, exec i s = .next t ∧
      (i.mnemonic ∉ [.bcc, .bcs, .beq, .bne, .bmi, .bpl, .bvc, .bvs, .jmp, .jsr, .rts, .brk, .rti] →
        t.pc = pcAfter i s)

/-- R89: the only instructions that leave PC anywhere but after their own bytes are the taken branches, JMP, JSR, RTS,
BRK and RTI. -/
def Obligations.OnlyOverridesMovePc : Prop :=
  ∀ (i : Instr) (s t : State), exec i s = .next t →
    i.mnemonic ∉ [.jmp, .jsr, .rts, .brk, .rti] → branchTaken i.mnemonic s.flags ≠ some true → t.pc = pcAfter i s

/-- Which instructions may write which register (R12 to R14): the frame of A, X, Y and S over all instructions, the
undocumented ones among them. The members of the families are general knowledge (D13). -/
def Obligations.RegistersHaveFewWriters : Prop :=
  ∀ (i : Instr) (s t : State), exec i s = .next t →
    (i.mnemonic ∉ [.adc, .sbc, .and, .ora, .eor, .lda, .pla, .txa, .tya] → i.operand ≠ .accumulator → t.a = s.a) ∧
    (i.mnemonic ∉ [.ldx, .tax, .tsx, .inx, .dex] → t.x = s.x) ∧
    (i.mnemonic ∉ [.ldy, .tay, .iny, .dey] → t.y = s.y) ∧
    (i.mnemonic ∉ [.pha, .php, .pla, .plp, .jsr, .rts, .brk, .rti, .txs] → t.sp = s.sp)

/-- Which instructions may write which flag: the table of R16 as the frame of the six flags over all instructions (its
rows for BIT, loads, PLA and the flag instructions are general knowledge, D13). -/
def Obligations.FlagsHaveFewWriters : Prop :=
  ∀ (i : Instr) (s t : State), exec i s = .next t →
    (i.mnemonic ∉ [.adc, .sbc, .cmp, .cpx, .cpy, .asl, .lsr, .rol, .ror, .clc, .sec, .plp, .rti] →
      t.flags.c = s.flags.c) ∧
    (i.mnemonic ∉ [.adc, .sbc, .and, .ora, .eor, .asl, .lsr, .rol, .ror, .inc, .dec, .inx, .iny, .dex, .dey, .tax,
        .tay, .txa, .tya, .tsx, .lda, .ldx, .ldy, .pla, .cmp, .cpx, .cpy, .bit, .plp, .rti] →
      t.flags.z = s.flags.z ∧ t.flags.n = s.flags.n) ∧
    (i.mnemonic ∉ [.sei, .cli, .brk, .plp, .rti] → t.flags.i = s.flags.i) ∧
    (i.mnemonic ∉ [.sed, .cld, .plp, .rti] → t.flags.d = s.flags.d) ∧
    (i.mnemonic ∉ [.adc, .sbc, .bit, .clv, .plp, .rti] → t.flags.v = s.flags.v)

/-- The frame of memory: an instruction that stores nothing leaves every cell; a store or a read-modify-write leaves
every address but those that lead where its effective address leads; pushes leave every address but those that lead
where their stack addresses lead. -/
def Obligations.MemoryChangesOnlyWhereStored : Prop :=
  ∀ (i : Instr) (s t : State), exec i s = .next t →
    ((i.mnemonic ∉ [.sta, .stx, .sty, .asl, .lsr, .rol, .ror, .inc, .dec, .pha, .php, .jsr, .brk] ∨
      i.operand = .accumulator) → t.mem = s.mem) ∧
    (∀ m e u, i.mnemonic ∈ [.sta, .stx, .sty, .asl, .lsr, .rol, .ror, .inc, .dec] → i.operand = .memory m →
      effAddr m s = .ok (e, u) →
      ∀ addr, translateAddr s.platform addr ≠ translateAddr s.platform e.addr → inspectCell addr t = inspectCell addr s) ∧
    (∀ n : Nat, (i.mnemonic ∈ [.pha, .php] ∧ n = 1 ∨ i.mnemonic = .jsr ∧ n = 2 ∨ i.mnemonic = .brk ∧ n = 3) →
      ∀ addr, (∀ k < n, translateAddr s.platform addr ≠
          translateAddr s.platform (word Config.stackPage (s.sp - BitVec.ofNat 8 k))) →
        inspectCell addr t = inspectCell addr s)

/-- R19: the flag D has no effect on any computation. Changing D before an instruction changes nothing after it but D,
and nothing at all where the instruction writes D itself; that a device handler answers both runs alike is this model's
inference (log 3, DEDUCED). SED sets it, CLD clears it, PHP and BRK push it, and PLP and RTI restore it. -/
def Obligations.DecimalFlagIsStorageOnly : Prop :=
  ∀ (s : State) (b : Bool),
    (∀ i : Instr, i.mnemonic ∉ [.php, .brk, .plp, .rti, .sed, .cld] →
      exec i (withD b s) = onState (withD b) (exec i s)) ∧
    (∀ (i : Instr) t, i.mnemonic ∈ [.plp, .rti, .sed, .cld] → exec i s = .next t → exec i (withD b s) = .next t) ∧
    (∀ (i : Instr) t, i.mnemonic ∈ [.php, .brk] → exec i s = .next t →
      (∃ u, exec i (withD b s) = .next u ∧ u.sp = t.sp ∧ u.flags = { t.flags with d := b }) ∧
      (i.mnemonic = .php → Transaction.write (word Config.stackPage s.sp) (s.flags.pByte true) ∈ t.trace) ∧
      (i.mnemonic = .brk → Transaction.write (word Config.stackPage (s.sp - 2)) (s.flags.pByte true) ∈ t.trace)) ∧
    (Flags.ofByte (s.flags.pByte true)).d = s.flags.d ∧
    (∀ t, exec .sed s = .next t → t.flags.d = true) ∧ (∀ t, exec .cld s = .next t → t.flags.d = false) ∧
    ∀ v u t, pull s = .ok (v, u) → (exec .plp s = .next t ∨ exec .rti s = .next t) → t.flags.d = (Flags.ofByte v).d

/-- Nothing but a push reads the flag I: the core has no interrupt to disable (D15). That a device handler answers both
runs alike is this model's inference (log 3, DEDUCED). -/
def Obligations.InterruptDisableIsStorageOnly : Prop :=
  ∀ (i : Instr) (s : State) (b : Bool),
    (i.mnemonic ∉ [.php, .brk, .plp, .rti, .sei, .cli] → exec i (withI b s) = onState (withI b) (exec i s)) ∧
    (i.mnemonic ∈ [.plp, .rti, .sei, .cli] → ∀ t, exec i s = .next t → exec i (withI b s) = .next t)

/-! ### Reset, timing, syntax -/

/-- The reset input (R190, the spec's decision D16): registers, then PC from the reset vector, two reads and nothing
else; storage, platform and record stay. What devices have seen stays where the vector is storage, and grows by what a
handled vector read tells them otherwise. The last clause, on State.reset, rests on this model's choices of memory (log
1), windows (log 2), registers (log 7) and transactions (log 17) at reset. -/
def Obligations.ResetLoadsRegistersAndVector : Prop :=
  ∀ s : State,
    (Answers s.platform Config.resetVector → Answers s.platform (Config.resetVector + 1) →
      ∃ t lo hi, resetInput s = .ok t ∧ t.a = 0 ∧ t.x = 0 ∧ t.y = 0 ∧ t.sp = 0xFD ∧ inspectP t = 0x24 ∧
        t.pc = word hi lo ∧ t.mem = s.mem ∧ t.platform = s.platform ∧ t.record = s.record ∧
        t.trace = [.read Config.resetVector lo, .read (Config.resetVector + 1) hi] ∧
        s.deviceLog <+: t.deviceLog ∧
        (IsStorage s.platform Config.resetVector → IsStorage s.platform (Config.resetVector + 1) →
          t.deviceLog = s.deviceLog) ∧
        (∀ b, inspectCell Config.resetVector s = some b → lo = b) ∧
        ∀ b, inspectCell (Config.resetVector + 1) s = some b → hi = b) ∧
    (∀ f, resetInput s = .error f →
      f.left.a = 0 ∧ f.left.x = 0 ∧ f.left.y = 0 ∧ f.left.sp = 0xFD ∧ inspectP f.left = 0x24 ∧ f.left.mem = s.mem ∧
        s.deviceLog <+: f.left.deviceLog) ∧
    (s.mem = [] → s.platform = Config.defaultPlatform →
      resetInput s = .ok { State.reset with record := s.record, deviceLog := s.deviceLog })

/-- The informative cycle count of a completed step (R198, D8; the base cycles are G2): the base cycles, one more for a
marked page crossing, one more for a taken branch and another where the target lies outside the page of `start`. -/
def Obligations.CycleCountFormula : Prop :=
  ∀ (i : Instr) (s t : State), exec i s = .next t →
    ∃ r u, resolve i.operand s = .ok (r, u) ∧
      cycles i s = some ((catalog i.opcode).baseCycles +
        (if (catalog i.opcode).penalty = .page ∧ r.cross = true then 1 else 0) +
        (if branchTaken i.mnemonic s.flags = some true then (if hiByte t.pc = hiByte s.pc then 1 else 2) else 0))
end

