-- ==== Sys2Proof/Laws/Memory.lean ====
section
/-! SUPPORT. The storage cells: read after write, and the canonical form is kept. -/

namespace Sys2Proof.Machine.Memory

theorem read_erase_same (m : Memory) (n : Nat) : (m.erase n).read n = Config.launchByte := by
  induction m with
  | nil => rfl
  | cons c m ih =>
    unfold Memory.erase at *
    by_cases h : c.1 = n <;> simp [h, Memory.read, ih]

theorem read_erase_other (m : Memory) {n k : Nat} (h : k ≠ n) : (m.erase n).read k = m.read k := by
  induction m with
  | nil => rfl
  | cons c m ih =>
    obtain ⟨j, b⟩ := c
    unfold Memory.erase at *
    by_cases hj : j = n
    · simp [hj, Memory.read, ih, Ne.symm h]
    · simp [hj, Memory.read, ih]

theorem read_insert_same (m : Memory) (n : Nat) (v : Byte) (h : ∀ c ∈ m, c.1 ≠ n) : (m.insert n v).read n = v := by
  induction m with
  | nil => simp [Memory.insert, Memory.read]
  | cons c m ih =>
    obtain ⟨j, b⟩ := c
    have hj : j ≠ n := h _ List.mem_cons_self
    have ih := ih fun c hc => h c (List.mem_cons_of_mem _ hc)
    by_cases hlt : n < j <;> simp [Memory.insert, Memory.read, hlt, hj, ih]

theorem read_insert_other (m : Memory) {n k : Nat} (v : Byte) (h : k ≠ n) : (m.insert n v).read k = m.read k := by
  induction m with
  | nil => simp [Memory.insert, Memory.read, Ne.symm h]
  | cons c m ih =>
    obtain ⟨j, b⟩ := c
    by_cases hlt : n < j <;> simp [Memory.insert, Memory.read, hlt, Ne.symm h, ih]

theorem erase_lacks (m : Memory) (n : Nat) : ∀ c ∈ m.erase n, c.1 ≠ n := by
  intro c hc
  simpa [Memory.erase] using (List.mem_filter.mp hc).2

@[simp] theorem read_write_same (m : Memory) (n : Nat) (v : Byte) : (m.write n v).read n = v := by
  unfold Memory.write
  split
  · next h => simp [read_erase_same, h]
  · exact read_insert_same _ _ _ (erase_lacks m n)

theorem read_write_other (m : Memory) {n k : Nat} (v : Byte) (h : k ≠ n) : (m.write n v).read k = m.read k := by
  unfold Memory.write
  split
  · exact read_erase_other m h
  · rw [read_insert_other _ v h, read_erase_other m h]

theorem read_write (m : Memory) (n k : Nat) (v : Byte) :
    (m.write n v).read k = if k = n then v else m.read k := by
  split
  · next h => subst h; exact read_write_same m k v
  · next h => exact read_write_other m v h

theorem wf_nil : Memory.wf [] := by simp [Memory.wf]

theorem erase_wf {m : Memory} (n : Nat) (h : Memory.wf m) : Memory.wf (m.erase n) :=
  ⟨h.1.filter _, fun c hc => h.2 c (List.mem_filter.mp hc).1⟩

theorem mem_insert {m : Memory} {n : Nat} {v : Byte} {c : Host.Cell} (h : c ∈ m.insert n v) : c = (n, v) ∨ c ∈ m := by
  induction m with
  | nil => simpa [Memory.insert] using h
  | cons d m ih =>
    obtain ⟨j, b⟩ := d
    by_cases hlt : n < j <;> simp only [Memory.insert, hlt, if_true, if_false, List.mem_cons] at h ⊢
    · exact h
    · rcases h with h | h
      · exact .inr (.inl h)
      · rcases ih h with h | h
        · exact .inl h
        · exact .inr (.inr h)

theorem insert_pairwise {m : Memory} {n : Nat} {v : Byte} (h : m.Pairwise (fun p q => p.1 < q.1))
    (hn : ∀ c ∈ m, c.1 ≠ n) : (m.insert n v).Pairwise (fun p q => p.1 < q.1) := by
  induction m with
  | nil => simp [Memory.insert]
  | cons d m ih =>
    obtain ⟨j, b⟩ := d
    rw [List.pairwise_cons] at h
    have hj : j ≠ n := hn _ List.mem_cons_self
    by_cases hlt : n < j
    · simp only [Memory.insert, hlt, if_true, List.pairwise_cons]
      refine ⟨?_, h⟩
      rintro c (_ | ⟨_, hc⟩)
      · exact hlt
      · exact Nat.lt_trans hlt (h.1 c hc)
    · simp only [Memory.insert, hlt, if_false, List.pairwise_cons]
      refine ⟨?_, ih h.2 fun c hc => hn c (List.mem_cons_of_mem _ hc)⟩
      intro c hc
      rcases mem_insert hc with rfl | hc
      · show j < n
        omega
      · exact h.1 c hc

/-- A write keeps the canonical form. -/
theorem write_wf {m : Memory} {n : Nat} (v : Byte) (h : Memory.wf m) (hn : n < 65536) : Memory.wf (m.write n v) := by
  unfold Memory.write
  split
  · exact erase_wf n h
  · next hv =>
    have he := erase_wf n h
    refine ⟨insert_pairwise he.1 (erase_lacks m n), fun c hc => ?_⟩
    rcases mem_insert hc with rfl | hc
    · exact ⟨hn, hv⟩
    · exact he.2 c hc

/-- A cell that no entry lists reads as it does at launch. -/
theorem read_of_lacks {m : Memory} {n : Nat} (h : ∀ c ∈ m, c.1 ≠ n) : m.read n = Config.launchByte := by
  induction m with
  | nil => rfl
  | cons d m ih =>
    obtain ⟨j, b⟩ := d
    simp [Memory.read, h (j, b) List.mem_cons_self, ih fun c hc => h c (List.mem_cons_of_mem _ hc)]

/-- An entry of a memory in canonical form is what its cell reads. -/
theorem read_of_mem {m : Memory} (hm : m.Pairwise (fun p q => p.1 < q.1)) {c : Host.Cell} (h : c ∈ m) :
    m.read c.1 = c.2 := by
  induction m with
  | nil => cases h
  | cons d m ih =>
    obtain ⟨j, b⟩ := d
    rw [List.pairwise_cons] at hm
    rcases List.mem_cons.mp h with rfl | h
    · simp [Memory.read]
    · have : j < c.1 := hm.1 c h
      simp [Memory.read, Nat.ne_of_lt this, ih hm.2 h]

end Sys2Proof.Machine.Memory
end

