-- ==== Sys2Proof/Laws/State.lean ====
section
/-! SUPPORT. One lemma per field per named update of the state (a record update is never unfolded in a later proof). -/

namespace Sys2Proof.Machine.State

section
variable (s : State)

@[simp] theorem setA_a (v : Byte) : (s.setA v).a = v := rfl
@[simp] theorem setA_x (v : Byte) : (s.setA v).x = s.x := rfl
@[simp] theorem setA_y (v : Byte) : (s.setA v).y = s.y := rfl
@[simp] theorem setA_sp (v : Byte) : (s.setA v).sp = s.sp := rfl
@[simp] theorem setA_pc (v : Byte) : (s.setA v).pc = s.pc := rfl
@[simp] theorem setA_flags (v : Byte) : (s.setA v).flags = s.flags := rfl
@[simp] theorem setA_mem (v : Byte) : (s.setA v).mem = s.mem := rfl
@[simp] theorem setA_platform (v : Byte) : (s.setA v).platform = s.platform := rfl
@[simp] theorem setA_trace (v : Byte) : (s.setA v).trace = s.trace := rfl
@[simp] theorem setA_outcome (v : Byte) : (s.setA v).outcome = s.outcome := rfl
@[simp] theorem setA_record (v : Byte) : (s.setA v).record = s.record := rfl
@[simp] theorem setA_deviceLog (v : Byte) : (s.setA v).deviceLog = s.deviceLog := rfl

@[simp] theorem setX_a (v : Byte) : (s.setX v).a = s.a := rfl
@[simp] theorem setX_x (v : Byte) : (s.setX v).x = v := rfl
@[simp] theorem setX_y (v : Byte) : (s.setX v).y = s.y := rfl
@[simp] theorem setX_sp (v : Byte) : (s.setX v).sp = s.sp := rfl
@[simp] theorem setX_pc (v : Byte) : (s.setX v).pc = s.pc := rfl
@[simp] theorem setX_flags (v : Byte) : (s.setX v).flags = s.flags := rfl
@[simp] theorem setX_mem (v : Byte) : (s.setX v).mem = s.mem := rfl
@[simp] theorem setX_platform (v : Byte) : (s.setX v).platform = s.platform := rfl
@[simp] theorem setX_trace (v : Byte) : (s.setX v).trace = s.trace := rfl
@[simp] theorem setX_outcome (v : Byte) : (s.setX v).outcome = s.outcome := rfl
@[simp] theorem setX_record (v : Byte) : (s.setX v).record = s.record := rfl
@[simp] theorem setX_deviceLog (v : Byte) : (s.setX v).deviceLog = s.deviceLog := rfl

@[simp] theorem setY_a (v : Byte) : (s.setY v).a = s.a := rfl
@[simp] theorem setY_x (v : Byte) : (s.setY v).x = s.x := rfl
@[simp] theorem setY_y (v : Byte) : (s.setY v).y = v := rfl
@[simp] theorem setY_sp (v : Byte) : (s.setY v).sp = s.sp := rfl
@[simp] theorem setY_pc (v : Byte) : (s.setY v).pc = s.pc := rfl
@[simp] theorem setY_flags (v : Byte) : (s.setY v).flags = s.flags := rfl
@[simp] theorem setY_mem (v : Byte) : (s.setY v).mem = s.mem := rfl
@[simp] theorem setY_platform (v : Byte) : (s.setY v).platform = s.platform := rfl
@[simp] theorem setY_trace (v : Byte) : (s.setY v).trace = s.trace := rfl
@[simp] theorem setY_outcome (v : Byte) : (s.setY v).outcome = s.outcome := rfl
@[simp] theorem setY_record (v : Byte) : (s.setY v).record = s.record := rfl
@[simp] theorem setY_deviceLog (v : Byte) : (s.setY v).deviceLog = s.deviceLog := rfl

@[simp] theorem setSp_a (v : Byte) : (s.setSp v).a = s.a := rfl
@[simp] theorem setSp_x (v : Byte) : (s.setSp v).x = s.x := rfl
@[simp] theorem setSp_y (v : Byte) : (s.setSp v).y = s.y := rfl
@[simp] theorem setSp_sp (v : Byte) : (s.setSp v).sp = v := rfl
@[simp] theorem setSp_pc (v : Byte) : (s.setSp v).pc = s.pc := rfl
@[simp] theorem setSp_flags (v : Byte) : (s.setSp v).flags = s.flags := rfl
@[simp] theorem setSp_mem (v : Byte) : (s.setSp v).mem = s.mem := rfl
@[simp] theorem setSp_platform (v : Byte) : (s.setSp v).platform = s.platform := rfl
@[simp] theorem setSp_trace (v : Byte) : (s.setSp v).trace = s.trace := rfl
@[simp] theorem setSp_outcome (v : Byte) : (s.setSp v).outcome = s.outcome := rfl
@[simp] theorem setSp_record (v : Byte) : (s.setSp v).record = s.record := rfl
@[simp] theorem setSp_deviceLog (v : Byte) : (s.setSp v).deviceLog = s.deviceLog := rfl

@[simp] theorem setPc_a (t : Addr) : (s.setPc t).a = s.a := rfl
@[simp] theorem setPc_x (t : Addr) : (s.setPc t).x = s.x := rfl
@[simp] theorem setPc_y (t : Addr) : (s.setPc t).y = s.y := rfl
@[simp] theorem setPc_sp (t : Addr) : (s.setPc t).sp = s.sp := rfl
@[simp] theorem setPc_pc (t : Addr) : (s.setPc t).pc = t := rfl
@[simp] theorem setPc_flags (t : Addr) : (s.setPc t).flags = s.flags := rfl
@[simp] theorem setPc_mem (t : Addr) : (s.setPc t).mem = s.mem := rfl
@[simp] theorem setPc_platform (t : Addr) : (s.setPc t).platform = s.platform := rfl
@[simp] theorem setPc_trace (t : Addr) : (s.setPc t).trace = s.trace := rfl
@[simp] theorem setPc_outcome (t : Addr) : (s.setPc t).outcome = s.outcome := rfl
@[simp] theorem setPc_record (t : Addr) : (s.setPc t).record = s.record := rfl
@[simp] theorem setPc_deviceLog (t : Addr) : (s.setPc t).deviceLog = s.deviceLog := rfl

@[simp] theorem setFlags_a (f : Flags) : (s.setFlags f).a = s.a := rfl
@[simp] theorem setFlags_x (f : Flags) : (s.setFlags f).x = s.x := rfl
@[simp] theorem setFlags_y (f : Flags) : (s.setFlags f).y = s.y := rfl
@[simp] theorem setFlags_sp (f : Flags) : (s.setFlags f).sp = s.sp := rfl
@[simp] theorem setFlags_pc (f : Flags) : (s.setFlags f).pc = s.pc := rfl
@[simp] theorem setFlags_flags (f : Flags) : (s.setFlags f).flags = f := rfl
@[simp] theorem setFlags_mem (f : Flags) : (s.setFlags f).mem = s.mem := rfl
@[simp] theorem setFlags_platform (f : Flags) : (s.setFlags f).platform = s.platform := rfl
@[simp] theorem setFlags_trace (f : Flags) : (s.setFlags f).trace = s.trace := rfl
@[simp] theorem setFlags_outcome (f : Flags) : (s.setFlags f).outcome = s.outcome := rfl
@[simp] theorem setFlags_record (f : Flags) : (s.setFlags f).record = s.record := rfl
@[simp] theorem setFlags_deviceLog (f : Flags) : (s.setFlags f).deviceLog = s.deviceLog := rfl

@[simp] theorem setMem_a (m : Memory) : (s.setMem m).a = s.a := rfl
@[simp] theorem setMem_x (m : Memory) : (s.setMem m).x = s.x := rfl
@[simp] theorem setMem_y (m : Memory) : (s.setMem m).y = s.y := rfl
@[simp] theorem setMem_sp (m : Memory) : (s.setMem m).sp = s.sp := rfl
@[simp] theorem setMem_pc (m : Memory) : (s.setMem m).pc = s.pc := rfl
@[simp] theorem setMem_flags (m : Memory) : (s.setMem m).flags = s.flags := rfl
@[simp] theorem setMem_mem (m : Memory) : (s.setMem m).mem = m := rfl
@[simp] theorem setMem_platform (m : Memory) : (s.setMem m).platform = s.platform := rfl
@[simp] theorem setMem_trace (m : Memory) : (s.setMem m).trace = s.trace := rfl
@[simp] theorem setMem_outcome (m : Memory) : (s.setMem m).outcome = s.outcome := rfl
@[simp] theorem setMem_record (m : Memory) : (s.setMem m).record = s.record := rfl
@[simp] theorem setMem_deviceLog (m : Memory) : (s.setMem m).deviceLog = s.deviceLog := rfl

@[simp] theorem log_a (t : Transaction) : (s.log t).a = s.a := rfl
@[simp] theorem log_x (t : Transaction) : (s.log t).x = s.x := rfl
@[simp] theorem log_y (t : Transaction) : (s.log t).y = s.y := rfl
@[simp] theorem log_sp (t : Transaction) : (s.log t).sp = s.sp := rfl
@[simp] theorem log_pc (t : Transaction) : (s.log t).pc = s.pc := rfl
@[simp] theorem log_flags (t : Transaction) : (s.log t).flags = s.flags := rfl
@[simp] theorem log_mem (t : Transaction) : (s.log t).mem = s.mem := rfl
@[simp] theorem log_platform (t : Transaction) : (s.log t).platform = s.platform := rfl
@[simp] theorem log_trace (t : Transaction) : (s.log t).trace = s.trace ++ [t] := rfl
@[simp] theorem log_outcome (t : Transaction) : (s.log t).outcome = s.outcome := rfl
@[simp] theorem log_record (t : Transaction) : (s.log t).record = s.record := rfl
@[simp] theorem log_deviceLog (t : Transaction) : (s.log t).deviceLog = s.deviceLog := rfl

@[simp] theorem tell_a (e : DeviceEvent) : (s.tell e).a = s.a := rfl
@[simp] theorem tell_x (e : DeviceEvent) : (s.tell e).x = s.x := rfl
@[simp] theorem tell_y (e : DeviceEvent) : (s.tell e).y = s.y := rfl
@[simp] theorem tell_sp (e : DeviceEvent) : (s.tell e).sp = s.sp := rfl
@[simp] theorem tell_pc (e : DeviceEvent) : (s.tell e).pc = s.pc := rfl
@[simp] theorem tell_flags (e : DeviceEvent) : (s.tell e).flags = s.flags := rfl
@[simp] theorem tell_mem (e : DeviceEvent) : (s.tell e).mem = s.mem := rfl
@[simp] theorem tell_platform (e : DeviceEvent) : (s.tell e).platform = s.platform := rfl
@[simp] theorem tell_trace (e : DeviceEvent) : (s.tell e).trace = s.trace := rfl
@[simp] theorem tell_outcome (e : DeviceEvent) : (s.tell e).outcome = s.outcome := rfl
@[simp] theorem tell_record (e : DeviceEvent) : (s.tell e).record = s.record := rfl
@[simp] theorem tell_deviceLog (e : DeviceEvent) : (s.tell e).deviceLog = s.deviceLog ++ [e] := rfl

@[simp] theorem report_a (r : Report) : (s.report r).a = s.a := rfl
@[simp] theorem report_x (r : Report) : (s.report r).x = s.x := rfl
@[simp] theorem report_y (r : Report) : (s.report r).y = s.y := rfl
@[simp] theorem report_sp (r : Report) : (s.report r).sp = s.sp := rfl
@[simp] theorem report_pc (r : Report) : (s.report r).pc = s.pc := rfl
@[simp] theorem report_flags (r : Report) : (s.report r).flags = s.flags := rfl
@[simp] theorem report_mem (r : Report) : (s.report r).mem = s.mem := rfl
@[simp] theorem report_platform (r : Report) : (s.report r).platform = s.platform := rfl
@[simp] theorem report_trace (r : Report) : (s.report r).trace = s.trace := rfl
@[simp] theorem report_outcome (r : Report) : (s.report r).outcome = r := rfl
@[simp] theorem report_record (r : Report) : (s.report r).record = s.record ++ [r] := rfl
@[simp] theorem report_deviceLog (r : Report) : (s.report r).deviceLog = s.deviceLog := rfl

@[simp] theorem beginStep_a : (s.beginStep).a = s.a := rfl
@[simp] theorem beginStep_x : (s.beginStep).x = s.x := rfl
@[simp] theorem beginStep_y : (s.beginStep).y = s.y := rfl
@[simp] theorem beginStep_sp : (s.beginStep).sp = s.sp := rfl
@[simp] theorem beginStep_pc : (s.beginStep).pc = s.pc := rfl
@[simp] theorem beginStep_flags : (s.beginStep).flags = s.flags := rfl
@[simp] theorem beginStep_mem : (s.beginStep).mem = s.mem := rfl
@[simp] theorem beginStep_platform : (s.beginStep).platform = s.platform := rfl
@[simp] theorem beginStep_trace : (s.beginStep).trace = [] := rfl
@[simp] theorem beginStep_outcome : (s.beginStep).outcome = .done := rfl
@[simp] theorem beginStep_record : (s.beginStep).record = s.record := rfl
@[simp] theorem beginStep_deviceLog : (s.beginStep).deviceLog = s.deviceLog := rfl

end

end Sys2Proof.Machine.State
end

