-- ==== Sys2Proof/Laws/Bus.lean ====
section
/-! SUPPORT. What a bus transaction can do, said once: the two outcomes of `memRead` and of `memWrite`, and the frame of
reads. -/

namespace Sys2Proof.Machine

/-! ### Computations that may fault -/

theorem bind_ok {α β : Type} {x : Except Fault α} {f : α → Except Fault β} {b : β} :
    (x >>= f) = .ok b ↔ ∃ a, x = .ok a ∧ f a = .ok b := by
  cases x <;> simp [bind, Except.bind]

theorem bind_error {α β : Type} {x : Except Fault α} {f : α → Except Fault β} {e : Fault} :
    (x >>= f) = .error e ↔ x = .error e ∨ ∃ a, x = .ok a ∧ f a = .error e := by
  cases x <;> simp [bind, Except.bind]

@[simp] theorem ok_bind {α β : Type} (a : α) (f : α → Except Fault β) : ((.ok a : Except Fault α) >>= f) = f a := rfl
@[simp] theorem error_bind {α β : Type} (e : Fault) (f : α → Except Fault β) :
    ((.error e : Except Fault α) >>= f) = .error e := rfl
@[simp] theorem pure_eq_ok {α : Type} (a : α) : (pure a : Except Fault α) = .ok a := rfl

@[simp] theorem finish_ok (t : State) : finish (.ok t) = .next t := rfl
@[simp] theorem finish_error (f : Fault) : finish (.error f) = .fault f := rfl

theorem finish_eq_next {r : Except Fault State} {t : State} : finish r = .next t ↔ r = .ok t := by
  cases r <;> simp [finish]

theorem finish_eq_fault {r : Except Fault State} {f : Fault} : finish r = .fault f ↔ r = .error f := by
  cases r <;> simp [finish]

theorem finish_ne_refused {r : Except Fault State} {q : Refusal} : finish r ≠ .refused q := by
  cases r <;> simp [finish]

/-! ### Translation -/

/-- A reserved window leads to no storage cell. -/
theorem placeInRsv1_ne_cell {p : Platform} {a n : Nat} : placeInRsv1 p a ≠ some (.cell n) := by
  unfold placeInRsv1
  split
  · simp
  · split
    · split <;> simp
    · simp

theorem placeInRsv2_ne_cell {p : Platform} {a n : Nat} : placeInRsv2 p a ≠ some (.cell n) := by
  unfold placeInRsv2
  split
  · simp
  · split
    · split <;> simp
    · simp

/-- A mirrored cell is not above the address that names it. -/
theorem placeInRam_cell_le {p : Platform} {a n : Nat} (h : placeInRam p a = some (.cell n)) : n ≤ a := by
  unfold placeInRam at h
  split at h
  · cases h
  · next w _ =>
    split at h
    · next hw =>
      simp only [Bool.and_eq_true, decide_eq_true_eq] at hw
      simp only [Option.some.injEq, Place.cell.injEq] at h
      have := Nat.mod_le (a - w.base) w.size
      omega
    · cases h

theorem placeInDev_cell_le {p : Platform} {a n : Nat} (h : placeInDev p a = some (.cell n)) : n ≤ a := by
  unfold placeInDev at h
  split at h
  · cases h
  · next w _ =>
    split at h
    · next hw =>
      simp only [Bool.and_eq_true, decide_eq_true_eq] at hw
      simp only [Option.some.injEq, Place.cell.injEq] at h
      have := Nat.mod_le (a - w.base) Config.devSize
      omega
    · cases h

/-- The cell of a raw address lies in the address space. -/
theorem translateAddr_cell_lt {p : Platform} {addr : Addr} {n : Nat} (h : translateAddr p addr = .cell n) : n < 65536 := by
  have ha := addr.isLt
  suffices n ≤ addr.toNat by omega
  unfold translateAddr at h
  split at h
  · next he => exact absurd (h ▸ he) placeInRsv1_ne_cell
  · split at h
    · next he => exact absurd (h ▸ he) placeInRsv2_ne_cell
    · split at h
      · next he => exact placeInRam_cell_le (h ▸ he)
      · split at h
        · next he => exact placeInDev_cell_le (h ▸ he)
        · simpa using (Place.cell.inj h).ge

/-! ### Reads and writes -/

theorem memRead_of_cell {s : State} {addr : Addr} {n : Nat} (h : translateAddr s.platform addr = .cell n) :
    memRead addr s = .ok (s.mem.read n, s.log (.read addr (s.mem.read n))) := by
  simp [memRead, h]

theorem memRead_of_nowhere {s : State} {addr : Addr} (h : translateAddr s.platform addr = .nowhere) :
    memRead addr s = .error (raiseRead addr s) := by
  simp [memRead, h]

theorem memWrite_of_cell {s : State} {addr : Addr} {n : Nat} (v : Byte) (h : translateAddr s.platform addr = .cell n) :
    memWrite addr v s = .ok ((s.log (.write addr v)).setMem (s.mem.write n v)) := by
  simp [memWrite, h]

theorem memWrite_of_nowhere {s : State} {addr : Addr} (v : Byte) (h : translateAddr s.platform addr = .nowhere) :
    memWrite addr v s = .error (raiseWrite addr v s) := by
  simp [memWrite, h]

/-- Everything a completed read can do. -/
theorem memRead_ok {s t : State} {addr : Addr} {v : Byte} (h : memRead addr s = .ok (v, t)) :
    Answers s.platform addr ∧
      ((∃ n, translateAddr s.platform addr = .cell n ∧ v = s.mem.read n ∧ t = s.log (.read addr v)) ∨
        ∃ w off, translateAddr s.platform addr = .device w off ∧ t = (s.log (.read addr v)).tell (.read w off v)) := by
  unfold memRead at h
  unfold Answers
  split at h <;> simp_all
  · obtain ⟨rfl, rfl⟩ := h
    simp
  · obtain ⟨rfl, rfl⟩ := h
    simp

theorem memRead_error {s : State} {addr : Addr} {f : Fault} (h : memRead addr s = .error f) :
    translateAddr s.platform addr = .nowhere ∧ f = raiseRead addr s := by
  unfold memRead at h
  split at h <;> simp_all

theorem memRead_answers {s : State} {addr : Addr} (h : Answers s.platform addr) : ∃ v t, memRead addr s = .ok (v, t) := by
  unfold memRead
  unfold Answers at h
  split <;> simp_all

/-- Everything a completed write can do. -/
theorem memWrite_ok {s t : State} {addr : Addr} {v : Byte} (h : memWrite addr v s = .ok t) :
    Answers s.platform addr ∧
      ((∃ n, translateAddr s.platform addr = .cell n ∧ t = (s.log (.write addr v)).setMem (s.mem.write n v)) ∨
        ∃ w off, translateAddr s.platform addr = .device w off ∧ t = (s.log (.write addr v)).tell (.write w off v)) := by
  unfold memWrite at h
  unfold Answers
  split at h <;> simp_all

theorem memWrite_error {s : State} {addr : Addr} {v : Byte} {f : Fault} (h : memWrite addr v s = .error f) :
    translateAddr s.platform addr = .nowhere ∧ f = raiseWrite addr v s := by
  unfold memWrite at h
  split at h <;> simp_all

theorem memWrite_answers {s : State} {addr : Addr} {v : Byte} (h : Answers s.platform addr) :
    ∃ t, memWrite addr v s = .ok t := by
  unfold memWrite
  unfold Answers at h
  split <;> simp_all

/-! ### Frames -/

theorem Observed.refl (s : State) : Observed s s := rfl

theorem Observed.trans {s t u : State} (h : Observed s t) (k : Observed t u) : Observed s u := by
  unfold Observed at *
  rw [k, h]

theorem Observed.log (s : State) (t : Transaction) : Observed s (s.log t) := rfl

theorem Observed.tell {s t : State} (h : Observed s t) (e : DeviceEvent) : Observed s (t.tell e) := by
  unfold Observed at *
  rw [h]
  rfl

/-- A read changes only what the bus exposes. -/
theorem memRead_observed {s t : State} {addr : Addr} {v : Byte} (h : memRead addr s = .ok (v, t)) : Observed s t := by
  obtain ⟨-, ⟨n, -, -, rfl⟩ | ⟨w, off, -, rfl⟩⟩ := memRead_ok h
  · exact .log s _
  · exact (Observed.log s _).tell _

section
variable {s t : State} (h : Observed s t)
include h
theorem Observed.a : t.a = s.a := by rw [h]
theorem Observed.x : t.x = s.x := by rw [h]
theorem Observed.y : t.y = s.y := by rw [h]
theorem Observed.sp : t.sp = s.sp := by rw [h]
theorem Observed.pc : t.pc = s.pc := by rw [h]
theorem Observed.flags : t.flags = s.flags := by rw [h]
theorem Observed.mem : t.mem = s.mem := by rw [h]
theorem Observed.platform : t.platform = s.platform := by rw [h]
theorem Observed.outcome : t.outcome = s.outcome := by rw [h]
theorem Observed.record : t.record = s.record := by rw [h]
end

/-- A read changes no byte, through whichever address it is looked at. -/
theorem Observed.inspectCell {s t : State} (h : Observed s t) (addr : Addr) :
    Machine.inspectCell addr t = Machine.inspectCell addr s := by
  simp only [Machine.inspectCell, h.mem, h.platform]

/-- A write changes no byte but those at addresses that lead where its address leads (R32). -/
theorem memWrite_frame {addr : Addr} {v : Byte} {s t : State} (h : memWrite addr v s = .ok t) :
    t.platform = s.platform ∧
      ∀ a, translateAddr s.platform a ≠ translateAddr s.platform addr → inspectCell a t = inspectCell a s := by
  obtain ⟨-, ⟨n, hn, rfl⟩ | ⟨w, off, -, rfl⟩⟩ := memWrite_ok h
  · refine ⟨rfl, fun a ha => ?_⟩
    rw [hn] at ha
    simp only [inspectCell, State.setMem_platform, State.log_platform, State.setMem_mem]
    cases hp : translateAddr s.platform a with
    | cell k =>
      have : k ≠ n := by
        rintro rfl
        exact ha hp
      simp only [Memory.read_write_other _ _ this]
    | _ => rfl
  · exact ⟨rfl, fun a _ => rfl⟩

/-- The cell a write leads to holds what was written. -/
theorem memWrite_stored {addr : Addr} {v : Byte} {s t : State} (h : memWrite addr v s = .ok t)
    (hs : IsStorage s.platform addr) : inspectCell addr t = some v := by
  obtain ⟨n, hn⟩ := hs
  rw [memWrite_of_cell v hn] at h
  cases h
  simp [inspectCell, hn]

/-! ### Several writes in order -/

@[simp] theorem stores_nil (s : State) : stores [] s = .ok s := rfl

theorem stores_cons_ok {addr : Addr} {v : Byte} {l : List (Addr × Byte)} {s u : State} :
    stores ((addr, v) :: l) s = .ok u ↔ ∃ t, memWrite addr v s = .ok t ∧ stores l t = .ok u := bind_ok

/-- Writes change no byte but those at addresses that lead where one of their addresses leads. -/
theorem stores_frame {l : List (Addr × Byte)} {s u : State} (h : stores l s = .ok u) :
    u.platform = s.platform ∧
      ∀ a, (∀ p ∈ l, translateAddr s.platform a ≠ translateAddr s.platform p.1) → inspectCell a u = inspectCell a s := by
  induction l generalizing s with
  | nil =>
    cases h
    exact ⟨rfl, fun _ _ => rfl⟩
  | cons p l ih =>
    obtain ⟨t, ht, h⟩ := stores_cons_ok.mp h
    obtain ⟨hp, hf⟩ := memWrite_frame ht
    obtain ⟨hq, hg⟩ := ih h
    refine ⟨hq.trans hp, fun a ha => ?_⟩
    rw [hg a (fun q hq => hp ▸ ha q (.tail _ hq)), hf a (ha p (.head _))]

/-- Each byte written shows at its address, where the addresses lead to different places. -/
theorem stores_stored {l : List (Addr × Byte)} {s u : State} (h : stores l s = .ok u)
    (hd : l.Pairwise fun p q => translateAddr s.platform p.1 ≠ translateAddr s.platform q.1) {p : Addr × Byte}
    (hp : p ∈ l) (hs : IsStorage s.platform p.1) : inspectCell p.1 u = some p.2 := by
  induction l generalizing s with
  | nil => cases hp
  | cons q l ih =>
    obtain ⟨t, ht, hl⟩ := stores_cons_ok.mp h
    have ht' := (memWrite_frame ht).1
    obtain ⟨hq, hd⟩ := List.pairwise_cons.mp hd
    rcases List.mem_cons.mp hp with rfl | hp
    · rw [(stores_frame hl).2 _ (fun r hr => ht' ▸ hq r hr)]
      exact memWrite_stored ht hs
    · exact ih hl (ht' ▸ hd) hp (ht' ▸ hs)

/-- A cell of memory that no write leads to is as before. -/
theorem stores_read {l : List (Addr × Byte)} {s u : State} (h : stores l s = .ok u) {n : Nat}
    (hn : ∀ p ∈ l, translateAddr s.platform p.1 ≠ .cell n) : u.mem.read n = s.mem.read n := by
  induction l generalizing s with
  | nil => cases h; rfl
  | cons p l ih =>
    obtain ⟨t, ht, h⟩ := stores_cons_ok.mp h
    rw [ih h (fun q hq => (memWrite_frame ht).1 ▸ hn q (.tail _ hq))]
    obtain ⟨-, ⟨k, hk, rfl⟩ | ⟨w, off, -, rfl⟩⟩ := memWrite_ok ht
    · refine Memory.read_write_other _ _ fun e => hn p (.head _) ?_
      rw [hk, e]
    · rfl

/-- What is left after the writes, without more than the writes themselves to know. -/
theorem LeavesStored.of_stores {s u : State} {f : Fault} {done : List (Addr × Byte)} (h : stores done s = .ok u)
    (hpc : f.left.pc = s.pc) (hp : f.left.platform = s.platform) (hm : f.left.mem = u.mem)
    (ht : u.trace <+: f.left.trace) (hd : u.deviceLog <+: f.left.deviceLog) : LeavesStored s f done := by
  refine ⟨hpc, hp, ⟨u, h, hm, ht, hd⟩, fun hw p hp' hs => ?_, fun n hn => by rw [hm, stores_read h hn]⟩
  have := stores_stored h hw hp' hs
  unfold inspectCell at this ⊢
  rwa [hp, hm, ← (stores_frame h).1]

end Sys2Proof.Machine
end

