-- ==== Sys2Proof/Laws/PerInstr.lean ====
section
/-! SUPPORT. Facts about every instruction as syntax, one lemma per constructor. -/

namespace Sys2Proof.Laws

/-- The catalog entry of the instruction's opcode byte names its mnemonic and the mode of its operand, the form is one
of R54 or R58, and the instruction has as many bytes as the mode says (30_encoding.md R50, R53, R55). -/
def Catalog.Statement (i : Instr) : Prop :=
  (catalog i.opcode).mnemonic = i.mnemonic ∧ (catalog i.opcode).mode = i.operand.mode ∧ i.wf = true ∧
    (encode i).length = 1 + operandCount i.opcode

theorem catalog_agrees (i : Instr) : Catalog.Statement i := by
  unfold Catalog.Statement
  cases i <;> (simp only [Instr.opcode]; exact ⟨rfl, rfl, rfl, rfl⟩)

theorem Catalog.oraIndX (z : Byte) : Catalog.Statement (.oraIndX z) := catalog_agrees _
theorem Catalog.oraZp (z : Byte) : Catalog.Statement (.oraZp z) := catalog_agrees _
theorem Catalog.aslZp (z : Byte) : Catalog.Statement (.aslZp z) := catalog_agrees _
theorem Catalog.oraImm (v : Byte) : Catalog.Statement (.oraImm v) := catalog_agrees _
theorem Catalog.oraAbs (addr : Addr) : Catalog.Statement (.oraAbs addr) := catalog_agrees _
theorem Catalog.aslAbs (addr : Addr) : Catalog.Statement (.aslAbs addr) := catalog_agrees _
theorem Catalog.bpl (off : Byte) : Catalog.Statement (.bpl off) := catalog_agrees _
theorem Catalog.oraIndY (z : Byte) : Catalog.Statement (.oraIndY z) := catalog_agrees _
theorem Catalog.oraZpX (z : Byte) : Catalog.Statement (.oraZpX z) := catalog_agrees _
theorem Catalog.aslZpX (z : Byte) : Catalog.Statement (.aslZpX z) := catalog_agrees _
theorem Catalog.oraAbsY (addr : Addr) : Catalog.Statement (.oraAbsY addr) := catalog_agrees _
theorem Catalog.oraAbsX (addr : Addr) : Catalog.Statement (.oraAbsX addr) := catalog_agrees _
theorem Catalog.aslAbsX (addr : Addr) : Catalog.Statement (.aslAbsX addr) := catalog_agrees _
theorem Catalog.jsrAbs (addr : Addr) : Catalog.Statement (.jsrAbs addr) := catalog_agrees _
theorem Catalog.andIndX (z : Byte) : Catalog.Statement (.andIndX z) := catalog_agrees _
theorem Catalog.bitZp (z : Byte) : Catalog.Statement (.bitZp z) := catalog_agrees _
theorem Catalog.andZp (z : Byte) : Catalog.Statement (.andZp z) := catalog_agrees _
theorem Catalog.rolZp (z : Byte) : Catalog.Statement (.rolZp z) := catalog_agrees _
theorem Catalog.andImm (v : Byte) : Catalog.Statement (.andImm v) := catalog_agrees _
theorem Catalog.bitAbs (addr : Addr) : Catalog.Statement (.bitAbs addr) := catalog_agrees _
theorem Catalog.andAbs (addr : Addr) : Catalog.Statement (.andAbs addr) := catalog_agrees _
theorem Catalog.rolAbs (addr : Addr) : Catalog.Statement (.rolAbs addr) := catalog_agrees _
theorem Catalog.bmi (off : Byte) : Catalog.Statement (.bmi off) := catalog_agrees _
theorem Catalog.andIndY (z : Byte) : Catalog.Statement (.andIndY z) := catalog_agrees _
theorem Catalog.andZpX (z : Byte) : Catalog.Statement (.andZpX z) := catalog_agrees _
theorem Catalog.rolZpX (z : Byte) : Catalog.Statement (.rolZpX z) := catalog_agrees _
theorem Catalog.andAbsY (addr : Addr) : Catalog.Statement (.andAbsY addr) := catalog_agrees _
theorem Catalog.andAbsX (addr : Addr) : Catalog.Statement (.andAbsX addr) := catalog_agrees _
theorem Catalog.rolAbsX (addr : Addr) : Catalog.Statement (.rolAbsX addr) := catalog_agrees _
theorem Catalog.eorIndX (z : Byte) : Catalog.Statement (.eorIndX z) := catalog_agrees _
theorem Catalog.eorZp (z : Byte) : Catalog.Statement (.eorZp z) := catalog_agrees _
theorem Catalog.lsrZp (z : Byte) : Catalog.Statement (.lsrZp z) := catalog_agrees _
theorem Catalog.eorImm (v : Byte) : Catalog.Statement (.eorImm v) := catalog_agrees _
theorem Catalog.jmpAbs (addr : Addr) : Catalog.Statement (.jmpAbs addr) := catalog_agrees _
theorem Catalog.eorAbs (addr : Addr) : Catalog.Statement (.eorAbs addr) := catalog_agrees _
theorem Catalog.lsrAbs (addr : Addr) : Catalog.Statement (.lsrAbs addr) := catalog_agrees _
theorem Catalog.bvc (off : Byte) : Catalog.Statement (.bvc off) := catalog_agrees _
theorem Catalog.eorIndY (z : Byte) : Catalog.Statement (.eorIndY z) := catalog_agrees _
theorem Catalog.eorZpX (z : Byte) : Catalog.Statement (.eorZpX z) := catalog_agrees _
theorem Catalog.lsrZpX (z : Byte) : Catalog.Statement (.lsrZpX z) := catalog_agrees _
theorem Catalog.eorAbsY (addr : Addr) : Catalog.Statement (.eorAbsY addr) := catalog_agrees _
theorem Catalog.eorAbsX (addr : Addr) : Catalog.Statement (.eorAbsX addr) := catalog_agrees _
theorem Catalog.lsrAbsX (addr : Addr) : Catalog.Statement (.lsrAbsX addr) := catalog_agrees _
theorem Catalog.adcIndX (z : Byte) : Catalog.Statement (.adcIndX z) := catalog_agrees _
theorem Catalog.adcZp (z : Byte) : Catalog.Statement (.adcZp z) := catalog_agrees _
theorem Catalog.rorZp (z : Byte) : Catalog.Statement (.rorZp z) := catalog_agrees _
theorem Catalog.adcImm (v : Byte) : Catalog.Statement (.adcImm v) := catalog_agrees _
theorem Catalog.jmpInd (p : Addr) : Catalog.Statement (.jmpInd p) := catalog_agrees _
theorem Catalog.adcAbs (addr : Addr) : Catalog.Statement (.adcAbs addr) := catalog_agrees _
theorem Catalog.rorAbs (addr : Addr) : Catalog.Statement (.rorAbs addr) := catalog_agrees _
theorem Catalog.bvs (off : Byte) : Catalog.Statement (.bvs off) := catalog_agrees _
theorem Catalog.adcIndY (z : Byte) : Catalog.Statement (.adcIndY z) := catalog_agrees _
theorem Catalog.adcZpX (z : Byte) : Catalog.Statement (.adcZpX z) := catalog_agrees _
theorem Catalog.rorZpX (z : Byte) : Catalog.Statement (.rorZpX z) := catalog_agrees _
theorem Catalog.adcAbsY (addr : Addr) : Catalog.Statement (.adcAbsY addr) := catalog_agrees _
theorem Catalog.adcAbsX (addr : Addr) : Catalog.Statement (.adcAbsX addr) := catalog_agrees _
theorem Catalog.rorAbsX (addr : Addr) : Catalog.Statement (.rorAbsX addr) := catalog_agrees _
theorem Catalog.staIndX (z : Byte) : Catalog.Statement (.staIndX z) := catalog_agrees _
theorem Catalog.styZp (z : Byte) : Catalog.Statement (.styZp z) := catalog_agrees _
theorem Catalog.staZp (z : Byte) : Catalog.Statement (.staZp z) := catalog_agrees _
theorem Catalog.stxZp (z : Byte) : Catalog.Statement (.stxZp z) := catalog_agrees _
theorem Catalog.styAbs (addr : Addr) : Catalog.Statement (.styAbs addr) := catalog_agrees _
theorem Catalog.staAbs (addr : Addr) : Catalog.Statement (.staAbs addr) := catalog_agrees _
theorem Catalog.stxAbs (addr : Addr) : Catalog.Statement (.stxAbs addr) := catalog_agrees _
theorem Catalog.bcc (off : Byte) : Catalog.Statement (.bcc off) := catalog_agrees _
theorem Catalog.staIndY (z : Byte) : Catalog.Statement (.staIndY z) := catalog_agrees _
theorem Catalog.styZpX (z : Byte) : Catalog.Statement (.styZpX z) := catalog_agrees _
theorem Catalog.staZpX (z : Byte) : Catalog.Statement (.staZpX z) := catalog_agrees _
theorem Catalog.stxZpY (z : Byte) : Catalog.Statement (.stxZpY z) := catalog_agrees _
theorem Catalog.staAbsY (addr : Addr) : Catalog.Statement (.staAbsY addr) := catalog_agrees _
theorem Catalog.staAbsX (addr : Addr) : Catalog.Statement (.staAbsX addr) := catalog_agrees _
theorem Catalog.ldyImm (v : Byte) : Catalog.Statement (.ldyImm v) := catalog_agrees _
theorem Catalog.ldaIndX (z : Byte) : Catalog.Statement (.ldaIndX z) := catalog_agrees _
theorem Catalog.ldxImm (v : Byte) : Catalog.Statement (.ldxImm v) := catalog_agrees _
theorem Catalog.ldyZp (z : Byte) : Catalog.Statement (.ldyZp z) := catalog_agrees _
theorem Catalog.ldaZp (z : Byte) : Catalog.Statement (.ldaZp z) := catalog_agrees _
theorem Catalog.ldxZp (z : Byte) : Catalog.Statement (.ldxZp z) := catalog_agrees _
theorem Catalog.ldaImm (v : Byte) : Catalog.Statement (.ldaImm v) := catalog_agrees _
theorem Catalog.ldyAbs (addr : Addr) : Catalog.Statement (.ldyAbs addr) := catalog_agrees _
theorem Catalog.ldaAbs (addr : Addr) : Catalog.Statement (.ldaAbs addr) := catalog_agrees _
theorem Catalog.ldxAbs (addr : Addr) : Catalog.Statement (.ldxAbs addr) := catalog_agrees _
theorem Catalog.bcs (off : Byte) : Catalog.Statement (.bcs off) := catalog_agrees _
theorem Catalog.ldaIndY (z : Byte) : Catalog.Statement (.ldaIndY z) := catalog_agrees _
theorem Catalog.ldyZpX (z : Byte) : Catalog.Statement (.ldyZpX z) := catalog_agrees _
theorem Catalog.ldaZpX (z : Byte) : Catalog.Statement (.ldaZpX z) := catalog_agrees _
theorem Catalog.ldxZpY (z : Byte) : Catalog.Statement (.ldxZpY z) := catalog_agrees _
theorem Catalog.ldaAbsY (addr : Addr) : Catalog.Statement (.ldaAbsY addr) := catalog_agrees _
theorem Catalog.ldyAbsX (addr : Addr) : Catalog.Statement (.ldyAbsX addr) := catalog_agrees _
theorem Catalog.ldaAbsX (addr : Addr) : Catalog.Statement (.ldaAbsX addr) := catalog_agrees _
theorem Catalog.ldxAbsY (addr : Addr) : Catalog.Statement (.ldxAbsY addr) := catalog_agrees _
theorem Catalog.cpyImm (v : Byte) : Catalog.Statement (.cpyImm v) := catalog_agrees _
theorem Catalog.cmpIndX (z : Byte) : Catalog.Statement (.cmpIndX z) := catalog_agrees _
theorem Catalog.cpyZp (z : Byte) : Catalog.Statement (.cpyZp z) := catalog_agrees _
theorem Catalog.cmpZp (z : Byte) : Catalog.Statement (.cmpZp z) := catalog_agrees _
theorem Catalog.decZp (z : Byte) : Catalog.Statement (.decZp z) := catalog_agrees _
theorem Catalog.cmpImm (v : Byte) : Catalog.Statement (.cmpImm v) := catalog_agrees _
theorem Catalog.cpyAbs (addr : Addr) : Catalog.Statement (.cpyAbs addr) := catalog_agrees _
theorem Catalog.cmpAbs (addr : Addr) : Catalog.Statement (.cmpAbs addr) := catalog_agrees _
theorem Catalog.decAbs (addr : Addr) : Catalog.Statement (.decAbs addr) := catalog_agrees _
theorem Catalog.bne (off : Byte) : Catalog.Statement (.bne off) := catalog_agrees _
theorem Catalog.cmpIndY (z : Byte) : Catalog.Statement (.cmpIndY z) := catalog_agrees _
theorem Catalog.cmpZpX (z : Byte) : Catalog.Statement (.cmpZpX z) := catalog_agrees _
theorem Catalog.decZpX (z : Byte) : Catalog.Statement (.decZpX z) := catalog_agrees _
theorem Catalog.cmpAbsY (addr : Addr) : Catalog.Statement (.cmpAbsY addr) := catalog_agrees _
theorem Catalog.cmpAbsX (addr : Addr) : Catalog.Statement (.cmpAbsX addr) := catalog_agrees _
theorem Catalog.decAbsX (addr : Addr) : Catalog.Statement (.decAbsX addr) := catalog_agrees _
theorem Catalog.cpxImm (v : Byte) : Catalog.Statement (.cpxImm v) := catalog_agrees _
theorem Catalog.sbcIndX (z : Byte) : Catalog.Statement (.sbcIndX z) := catalog_agrees _
theorem Catalog.cpxZp (z : Byte) : Catalog.Statement (.cpxZp z) := catalog_agrees _
theorem Catalog.sbcZp (z : Byte) : Catalog.Statement (.sbcZp z) := catalog_agrees _
theorem Catalog.incZp (z : Byte) : Catalog.Statement (.incZp z) := catalog_agrees _
theorem Catalog.sbcImm (v : Byte) : Catalog.Statement (.sbcImm v) := catalog_agrees _
theorem Catalog.cpxAbs (addr : Addr) : Catalog.Statement (.cpxAbs addr) := catalog_agrees _
theorem Catalog.sbcAbs (addr : Addr) : Catalog.Statement (.sbcAbs addr) := catalog_agrees _
theorem Catalog.incAbs (addr : Addr) : Catalog.Statement (.incAbs addr) := catalog_agrees _
theorem Catalog.beq (off : Byte) : Catalog.Statement (.beq off) := catalog_agrees _
theorem Catalog.sbcIndY (z : Byte) : Catalog.Statement (.sbcIndY z) := catalog_agrees _
theorem Catalog.sbcZpX (z : Byte) : Catalog.Statement (.sbcZpX z) := catalog_agrees _
theorem Catalog.incZpX (z : Byte) : Catalog.Statement (.incZpX z) := catalog_agrees _
theorem Catalog.sbcAbsY (addr : Addr) : Catalog.Statement (.sbcAbsY addr) := catalog_agrees _
theorem Catalog.sbcAbsX (addr : Addr) : Catalog.Statement (.sbcAbsX addr) := catalog_agrees _
theorem Catalog.incAbsX (addr : Addr) : Catalog.Statement (.incAbsX addr) := catalog_agrees _
theorem Catalog.slo03 (z : Byte) : Catalog.Statement (.slo03 z) := catalog_agrees _
theorem Catalog.nop04 (z : Byte) : Catalog.Statement (.nop04 z) := catalog_agrees _
theorem Catalog.slo07 (z : Byte) : Catalog.Statement (.slo07 z) := catalog_agrees _
theorem Catalog.anc0B (v : Byte) : Catalog.Statement (.anc0B v) := catalog_agrees _
theorem Catalog.nop0C (addr : Addr) : Catalog.Statement (.nop0C addr) := catalog_agrees _
theorem Catalog.slo0F (addr : Addr) : Catalog.Statement (.slo0F addr) := catalog_agrees _
theorem Catalog.slo13 (z : Byte) : Catalog.Statement (.slo13 z) := catalog_agrees _
theorem Catalog.nop14 (z : Byte) : Catalog.Statement (.nop14 z) := catalog_agrees _
theorem Catalog.slo17 (z : Byte) : Catalog.Statement (.slo17 z) := catalog_agrees _
theorem Catalog.slo1B (addr : Addr) : Catalog.Statement (.slo1B addr) := catalog_agrees _
theorem Catalog.nop1C (addr : Addr) : Catalog.Statement (.nop1C addr) := catalog_agrees _
theorem Catalog.slo1F (addr : Addr) : Catalog.Statement (.slo1F addr) := catalog_agrees _
theorem Catalog.rla23 (z : Byte) : Catalog.Statement (.rla23 z) := catalog_agrees _
theorem Catalog.rla27 (z : Byte) : Catalog.Statement (.rla27 z) := catalog_agrees _
theorem Catalog.anc2B (v : Byte) : Catalog.Statement (.anc2B v) := catalog_agrees _
theorem Catalog.rla2F (addr : Addr) : Catalog.Statement (.rla2F addr) := catalog_agrees _
theorem Catalog.rla33 (z : Byte) : Catalog.Statement (.rla33 z) := catalog_agrees _
theorem Catalog.nop34 (z : Byte) : Catalog.Statement (.nop34 z) := catalog_agrees _
theorem Catalog.rla37 (z : Byte) : Catalog.Statement (.rla37 z) := catalog_agrees _
theorem Catalog.rla3B (addr : Addr) : Catalog.Statement (.rla3B addr) := catalog_agrees _
theorem Catalog.nop3C (addr : Addr) : Catalog.Statement (.nop3C addr) := catalog_agrees _
theorem Catalog.rla3F (addr : Addr) : Catalog.Statement (.rla3F addr) := catalog_agrees _
theorem Catalog.sre43 (z : Byte) : Catalog.Statement (.sre43 z) := catalog_agrees _
theorem Catalog.nop44 (z : Byte) : Catalog.Statement (.nop44 z) := catalog_agrees _
theorem Catalog.sre47 (z : Byte) : Catalog.Statement (.sre47 z) := catalog_agrees _
theorem Catalog.alr4B (v : Byte) : Catalog.Statement (.alr4B v) := catalog_agrees _
theorem Catalog.sre4F (addr : Addr) : Catalog.Statement (.sre4F addr) := catalog_agrees _
theorem Catalog.sre53 (z : Byte) : Catalog.Statement (.sre53 z) := catalog_agrees _
theorem Catalog.nop54 (z : Byte) : Catalog.Statement (.nop54 z) := catalog_agrees _
theorem Catalog.sre57 (z : Byte) : Catalog.Statement (.sre57 z) := catalog_agrees _
theorem Catalog.sre5B (addr : Addr) : Catalog.Statement (.sre5B addr) := catalog_agrees _
theorem Catalog.nop5C (addr : Addr) : Catalog.Statement (.nop5C addr) := catalog_agrees _
theorem Catalog.sre5F (addr : Addr) : Catalog.Statement (.sre5F addr) := catalog_agrees _
theorem Catalog.rra63 (z : Byte) : Catalog.Statement (.rra63 z) := catalog_agrees _
theorem Catalog.nop64 (z : Byte) : Catalog.Statement (.nop64 z) := catalog_agrees _
theorem Catalog.rra67 (z : Byte) : Catalog.Statement (.rra67 z) := catalog_agrees _
theorem Catalog.arr6B (v : Byte) : Catalog.Statement (.arr6B v) := catalog_agrees _
theorem Catalog.rra6F (addr : Addr) : Catalog.Statement (.rra6F addr) := catalog_agrees _
theorem Catalog.rra73 (z : Byte) : Catalog.Statement (.rra73 z) := catalog_agrees _
theorem Catalog.nop74 (z : Byte) : Catalog.Statement (.nop74 z) := catalog_agrees _
theorem Catalog.rra77 (z : Byte) : Catalog.Statement (.rra77 z) := catalog_agrees _
theorem Catalog.rra7B (addr : Addr) : Catalog.Statement (.rra7B addr) := catalog_agrees _
theorem Catalog.nop7C (addr : Addr) : Catalog.Statement (.nop7C addr) := catalog_agrees _
theorem Catalog.rra7F (addr : Addr) : Catalog.Statement (.rra7F addr) := catalog_agrees _
theorem Catalog.nop80 (v : Byte) : Catalog.Statement (.nop80 v) := catalog_agrees _
theorem Catalog.nop82 (v : Byte) : Catalog.Statement (.nop82 v) := catalog_agrees _
theorem Catalog.sax83 (z : Byte) : Catalog.Statement (.sax83 z) := catalog_agrees _
theorem Catalog.sax87 (z : Byte) : Catalog.Statement (.sax87 z) := catalog_agrees _
theorem Catalog.nop89 (v : Byte) : Catalog.Statement (.nop89 v) := catalog_agrees _
theorem Catalog.xaa8B (v : Byte) : Catalog.Statement (.xaa8B v) := catalog_agrees _
theorem Catalog.sax8F (addr : Addr) : Catalog.Statement (.sax8F addr) := catalog_agrees _
theorem Catalog.ahx93 (z : Byte) : Catalog.Statement (.ahx93 z) := catalog_agrees _
theorem Catalog.sax97 (z : Byte) : Catalog.Statement (.sax97 z) := catalog_agrees _
theorem Catalog.tas9B (addr : Addr) : Catalog.Statement (.tas9B addr) := catalog_agrees _
theorem Catalog.shy9C (addr : Addr) : Catalog.Statement (.shy9C addr) := catalog_agrees _
theorem Catalog.shx9E (addr : Addr) : Catalog.Statement (.shx9E addr) := catalog_agrees _
theorem Catalog.ahx9F (addr : Addr) : Catalog.Statement (.ahx9F addr) := catalog_agrees _
theorem Catalog.laxA3 (z : Byte) : Catalog.Statement (.laxA3 z) := catalog_agrees _
theorem Catalog.laxA7 (z : Byte) : Catalog.Statement (.laxA7 z) := catalog_agrees _
theorem Catalog.laxAB (v : Byte) : Catalog.Statement (.laxAB v) := catalog_agrees _
theorem Catalog.laxAF (addr : Addr) : Catalog.Statement (.laxAF addr) := catalog_agrees _
theorem Catalog.laxB3 (z : Byte) : Catalog.Statement (.laxB3 z) := catalog_agrees _
theorem Catalog.laxB7 (z : Byte) : Catalog.Statement (.laxB7 z) := catalog_agrees _
theorem Catalog.lasBB (addr : Addr) : Catalog.Statement (.lasBB addr) := catalog_agrees _
theorem Catalog.laxBF (addr : Addr) : Catalog.Statement (.laxBF addr) := catalog_agrees _
theorem Catalog.nopC2 (v : Byte) : Catalog.Statement (.nopC2 v) := catalog_agrees _
theorem Catalog.dcpC3 (z : Byte) : Catalog.Statement (.dcpC3 z) := catalog_agrees _
theorem Catalog.dcpC7 (z : Byte) : Catalog.Statement (.dcpC7 z) := catalog_agrees _
theorem Catalog.axsCB (v : Byte) : Catalog.Statement (.axsCB v) := catalog_agrees _
theorem Catalog.dcpCF (addr : Addr) : Catalog.Statement (.dcpCF addr) := catalog_agrees _
theorem Catalog.dcpD3 (z : Byte) : Catalog.Statement (.dcpD3 z) := catalog_agrees _
theorem Catalog.nopD4 (z : Byte) : Catalog.Statement (.nopD4 z) := catalog_agrees _
theorem Catalog.dcpD7 (z : Byte) : Catalog.Statement (.dcpD7 z) := catalog_agrees _
theorem Catalog.dcpDB (addr : Addr) : Catalog.Statement (.dcpDB addr) := catalog_agrees _
theorem Catalog.nopDC (addr : Addr) : Catalog.Statement (.nopDC addr) := catalog_agrees _
theorem Catalog.dcpDF (addr : Addr) : Catalog.Statement (.dcpDF addr) := catalog_agrees _
theorem Catalog.nopE2 (v : Byte) : Catalog.Statement (.nopE2 v) := catalog_agrees _
theorem Catalog.iscE3 (z : Byte) : Catalog.Statement (.iscE3 z) := catalog_agrees _
theorem Catalog.iscE7 (z : Byte) : Catalog.Statement (.iscE7 z) := catalog_agrees _
theorem Catalog.sbcEB (v : Byte) : Catalog.Statement (.sbcEB v) := catalog_agrees _
theorem Catalog.iscEF (addr : Addr) : Catalog.Statement (.iscEF addr) := catalog_agrees _
theorem Catalog.iscF3 (z : Byte) : Catalog.Statement (.iscF3 z) := catalog_agrees _
theorem Catalog.nopF4 (z : Byte) : Catalog.Statement (.nopF4 z) := catalog_agrees _
theorem Catalog.iscF7 (z : Byte) : Catalog.Statement (.iscF7 z) := catalog_agrees _
theorem Catalog.iscFB (addr : Addr) : Catalog.Statement (.iscFB addr) := catalog_agrees _
theorem Catalog.nopFC (addr : Addr) : Catalog.Statement (.nopFC addr) := catalog_agrees _
theorem Catalog.iscFF (addr : Addr) : Catalog.Statement (.iscFF addr) := catalog_agrees _
theorem Catalog.brk : Catalog.Statement (.brk) := catalog_agrees _
theorem Catalog.php : Catalog.Statement (.php) := catalog_agrees _
theorem Catalog.aslAcc : Catalog.Statement (.aslAcc) := catalog_agrees _
theorem Catalog.clc : Catalog.Statement (.clc) := catalog_agrees _
theorem Catalog.plp : Catalog.Statement (.plp) := catalog_agrees _
theorem Catalog.rolAcc : Catalog.Statement (.rolAcc) := catalog_agrees _
theorem Catalog.sec : Catalog.Statement (.sec) := catalog_agrees _
theorem Catalog.rti : Catalog.Statement (.rti) := catalog_agrees _
theorem Catalog.pha : Catalog.Statement (.pha) := catalog_agrees _
theorem Catalog.lsrAcc : Catalog.Statement (.lsrAcc) := catalog_agrees _
theorem Catalog.cli : Catalog.Statement (.cli) := catalog_agrees _
theorem Catalog.rts : Catalog.Statement (.rts) := catalog_agrees _
theorem Catalog.pla : Catalog.Statement (.pla) := catalog_agrees _
theorem Catalog.rorAcc : Catalog.Statement (.rorAcc) := catalog_agrees _
theorem Catalog.sei : Catalog.Statement (.sei) := catalog_agrees _
theorem Catalog.dey : Catalog.Statement (.dey) := catalog_agrees _
theorem Catalog.txa : Catalog.Statement (.txa) := catalog_agrees _
theorem Catalog.tya : Catalog.Statement (.tya) := catalog_agrees _
theorem Catalog.txs : Catalog.Statement (.txs) := catalog_agrees _
theorem Catalog.tay : Catalog.Statement (.tay) := catalog_agrees _
theorem Catalog.tax : Catalog.Statement (.tax) := catalog_agrees _
theorem Catalog.clv : Catalog.Statement (.clv) := catalog_agrees _
theorem Catalog.tsx : Catalog.Statement (.tsx) := catalog_agrees _
theorem Catalog.iny : Catalog.Statement (.iny) := catalog_agrees _
theorem Catalog.dex : Catalog.Statement (.dex) := catalog_agrees _
theorem Catalog.cld : Catalog.Statement (.cld) := catalog_agrees _
theorem Catalog.inx : Catalog.Statement (.inx) := catalog_agrees _
theorem Catalog.nop : Catalog.Statement (.nop) := catalog_agrees _
theorem Catalog.sed : Catalog.Statement (.sed) := catalog_agrees _
theorem Catalog.jam02 : Catalog.Statement (.jam02) := catalog_agrees _
theorem Catalog.jam12 : Catalog.Statement (.jam12) := catalog_agrees _
theorem Catalog.nop1A : Catalog.Statement (.nop1A) := catalog_agrees _
theorem Catalog.jam22 : Catalog.Statement (.jam22) := catalog_agrees _
theorem Catalog.jam32 : Catalog.Statement (.jam32) := catalog_agrees _
theorem Catalog.nop3A : Catalog.Statement (.nop3A) := catalog_agrees _
theorem Catalog.jam42 : Catalog.Statement (.jam42) := catalog_agrees _
theorem Catalog.jam52 : Catalog.Statement (.jam52) := catalog_agrees _
theorem Catalog.nop5A : Catalog.Statement (.nop5A) := catalog_agrees _
theorem Catalog.jam62 : Catalog.Statement (.jam62) := catalog_agrees _
theorem Catalog.jam72 : Catalog.Statement (.jam72) := catalog_agrees _
theorem Catalog.nop7A : Catalog.Statement (.nop7A) := catalog_agrees _
theorem Catalog.jam92 : Catalog.Statement (.jam92) := catalog_agrees _
theorem Catalog.jamB2 : Catalog.Statement (.jamB2) := catalog_agrees _
theorem Catalog.jamD2 : Catalog.Statement (.jamD2) := catalog_agrees _
theorem Catalog.nopDA : Catalog.Statement (.nopDA) := catalog_agrees _
theorem Catalog.jamF2 : Catalog.Statement (.jamF2) := catalog_agrees _
theorem Catalog.nopFA : Catalog.Statement (.nopFA) := catalog_agrees _

end Sys2Proof.Laws
end

