-- ==== Sys2Proof/Laws/Decode.lean ====
section
/-! SUPPORT. Bytes and words, the length of an encoding, and where an instruction ends. -/

namespace Sys2Proof

/-! ### Bytes and words (10_state.md R9, 30_encoding.md R52) -/

@[simp] theorem hiByte_word (hi lo : Byte) : hiByte (word hi lo) = hi := by
  apply BitVec.eq_of_getLsbD_eq
  intro i h
  simp only [hiByte, word, BitVec.getLsbD_append, BitVec.getLsbD_extractLsb']
  simp [h]

@[simp] theorem loByte_word (hi lo : Byte) : loByte (word hi lo) = lo := by
  apply BitVec.eq_of_getLsbD_eq
  intro i h
  simp only [loByte, word, BitVec.getLsbD_append, BitVec.getLsbD_extractLsb']
  simp [h]

theorem word_toNat (hi lo : Byte) : (word hi lo).toNat = hi.toNat * 256 + lo.toNat := by
  simp only [word, BitVec.toNat_append]
  rw [Nat.shiftLeft_eq, Nat.mul_comm, ← Nat.two_pow_add_eq_or_of_lt lo.isLt]

theorem loByte_toNat (a : Addr) : (loByte a).toNat = a.toNat % 256 := by
  simp [loByte]

theorem hiByte_toNat (a : Addr) : (hiByte a).toNat = a.toNat / 256 := by
  simp [hiByte, Nat.shiftRight_eq_div_pow]
  have := a.isLt
  omega

@[simp] theorem word_hiByte_loByte (a : Addr) : word (hiByte a) (loByte a) = a := by
  apply BitVec.eq_of_toNat_eq
  rw [word_toNat, hiByte_toNat, loByte_toNat]
  omega

/-! ### Lengths -/

theorem operandCount_le (op : Byte) : operandCount op ≤ 2 := by
  unfold operandCount
  cases (catalog op).mode <;> decide

theorem operand_bytes_length (o : Operand) : o.bytes.length = o.mode.operandBytes := by
  cases o with
  | memory m => cases m <;> rfl
  | _ => rfl

namespace Machine

/-- PC after the instruction's bytes, in the terms of R89. -/
theorem pcAfter_eq (i : Instr) (s : State) : pcAfter i s = nextPc (operandSize i.operand) s := by
  simp only [pcAfter, encode, List.length_cons, operand_bytes_length, nextPc, operandSize]
  rw [Nat.add_comm, BitVec.ofNat_add, BitVec.add_assoc]
  rfl

/-- The end of an instruction that computes no override (R89). -/
theorem next_eq_pcAfter (i : Instr) (s : State) : next (operandSize i.operand) s = s.setPc (pcAfter i s) := by
  rw [pcAfter_eq]
  rfl

end Machine

end Sys2Proof
end

