-- ==== Sys2Proof/Laws/Operands.lean ====
section
/-! SUPPORT. What the stack operations, the resolver, `load` and `store` can do: the frame of each, and the relations
`Progress` and `FaultFrom` that hold of every computation inside a step. -/

namespace Sys2Proof.Machine

/-! ### Inside a step -/

/-- `t` is a later state of the same step as `s`: PC, the platform and what has been reported are the same, the storage
cells keep their canonical form, and the transactions and device accesses only grow. -/
structure Progress (s t : State) : Prop where
  pc : t.pc = s.pc
  platform : t.platform = s.platform
  outcome : t.outcome = s.outcome
  record : t.record = s.record
  wf : Memory.wf s.mem → Memory.wf t.mem
  trace : ∃ l, t.trace = s.trace ++ l
  deviceLog : ∃ l, t.deviceLog = s.deviceLog ++ l

theorem Progress.refl (s : State) : Progress s s := ⟨rfl, rfl, rfl, rfl, id, ⟨[], by simp⟩, ⟨[], by simp⟩⟩

theorem Progress.trans {s t u : State} (h : Progress s t) (k : Progress t u) : Progress s u := by
  obtain ⟨l, hl⟩ := h.trace
  obtain ⟨l', hl'⟩ := k.trace
  obtain ⟨d, hd⟩ := h.deviceLog
  obtain ⟨d', hd'⟩ := k.deviceLog
  exact ⟨k.pc.trans h.pc, k.platform.trans h.platform, k.outcome.trans h.outcome, k.record.trans h.record,
    fun w => k.wf (h.wf w), ⟨l ++ l', by simp [hl', hl]⟩, ⟨d ++ d', by simp [hd', hd]⟩⟩

/-- `f` was raised by an access, at an address that leads nowhere, in a later state of the same step as `s`. -/
def FaultFrom (s : State) (f : Fault) : Prop :=
  ∃ u addr, Progress s u ∧ translateAddr s.platform addr = .nowhere ∧
    (f = raiseRead addr u ∨ ∃ v, f = raiseWrite addr v u)

theorem FaultFrom.after {s t : State} {f : Fault} (h : Progress s t) (k : FaultFrom t f) : FaultFrom s f := by
  obtain ⟨u, addr, hu, ha, hf⟩ := k
  exact ⟨u, addr, h.trans hu, h.platform ▸ ha, hf⟩

/-- `r` computes inside the step of `s`. -/
def Inside {α : Type} (s : State) (state : α → State) (r : Except Fault α) : Prop :=
  (∀ b, r = .ok b → Progress s (state b)) ∧ ∀ f, r = .error f → FaultFrom s f

theorem Inside.ok {α : Type} {s : State} {state : α → State} {b : α} (h : Progress s (state b)) :
    Inside s state (.ok b) :=
  ⟨fun _ e => by cases e; exact h, fun _ e => by cases e⟩

theorem Inside.bind {α β : Type} {s : State} {sa : α → State} {sb : β → State} {x : Except Fault α}
    {g : α → Except Fault β} (hx : Inside s sa x) (hg : ∀ b, Inside (sa b) sb (g b)) : Inside s sb (x >>= g) := by
  cases x with
  | ok b => exact ⟨fun c hc => (hx.1 b rfl).trans ((hg b).1 c hc), fun f hf => .after (hx.1 b rfl) ((hg b).2 f hf)⟩
  | error e => exact ⟨fun _ hc => (nomatch hc), fun f hf => by cases hf; exact hx.2 e rfl⟩

theorem Inside.from {α : Type} {s t : State} {state : α → State} {r : Except Fault α} (h : Progress s t)
    (k : Inside t state r) : Inside s state r :=
  ⟨fun b hb => h.trans (k.1 b hb), fun f hf => .after h (k.2 f hf)⟩

theorem Progress.setA (s : State) (v : Byte) : Progress s (s.setA v) := ⟨rfl, rfl, rfl, rfl, id, ⟨[], by simp⟩, ⟨[], by simp⟩⟩
theorem Progress.setSp (s : State) (v : Byte) : Progress s (s.setSp v) := ⟨rfl, rfl, rfl, rfl, id, ⟨[], by simp⟩, ⟨[], by simp⟩⟩
theorem Progress.setFlags (s : State) (f : Flags) : Progress s (s.setFlags f) :=
  ⟨rfl, rfl, rfl, rfl, id, ⟨[], by simp⟩, ⟨[], by simp⟩⟩

theorem memRead_inside (addr : Addr) (s : State) : Inside s Prod.snd (memRead addr s) := by
  refine ⟨fun ⟨v, t⟩ h => ?_, fun f h => ?_⟩
  · obtain ⟨-, ⟨n, -, -, rfl⟩ | ⟨w, off, -, rfl⟩⟩ := memRead_ok h
    · exact ⟨rfl, rfl, rfl, rfl, id, ⟨_, rfl⟩, ⟨[], by simp⟩⟩
    · exact ⟨rfl, rfl, rfl, rfl, id, ⟨_, rfl⟩, ⟨_, rfl⟩⟩
  · obtain ⟨ha, rfl⟩ := memRead_error h
    exact ⟨s, addr, .refl s, ha, .inl rfl⟩

theorem memWrite_inside (addr : Addr) (v : Byte) (s : State) : Inside s id (memWrite addr v s) := by
  refine ⟨fun t h => ?_, fun f h => ?_⟩
  · obtain ⟨-, ⟨n, hn, rfl⟩ | ⟨w, off, -, rfl⟩⟩ := memWrite_ok h
    · exact ⟨rfl, rfl, rfl, rfl, fun hw => Memory.write_wf v hw (translateAddr_cell_lt hn), ⟨_, rfl⟩, ⟨[], by simp⟩⟩
    · exact ⟨rfl, rfl, rfl, rfl, id, ⟨_, rfl⟩, ⟨_, rfl⟩⟩
  · obtain ⟨ha, rfl⟩ := memWrite_error h
    exact ⟨s, addr, .refl s, ha, .inr ⟨v, rfl⟩⟩

/-! ### The stack -/

theorem push_inside (v : Byte) (s : State) : Inside s id (push v s) :=
  (memWrite_inside _ v s).bind fun t => .ok (.setSp t _)

theorem pull_inside (s : State) : Inside s Prod.snd (pull s) :=
  .from (.setSp s _) (memRead_inside _ _)

theorem pushWord_inside (v : Addr) (s : State) : Inside s id (pushWord v s) :=
  (push_inside _ s).bind fun t => push_inside _ t

theorem pullWord_inside (s : State) : Inside s Prod.snd (pullWord s) :=
  (pull_inside s).bind fun b => (pull_inside b.2).bind fun c => .ok (.refl c.2)

theorem readVector_inside (vector : Addr) (s : State) : Inside s Prod.snd (readVector vector s) :=
  (memRead_inside _ s).bind fun b => (memRead_inside _ b.2).bind fun c => .ok (.refl c.2)

/-- What a completed push leaves: S down by one, the registers and flags as before, and the write issued. -/
theorem push_ok {v : Byte} {s t : State} (h : push v s = .ok t) :
    ∃ u, memWrite (stackAddr s.sp) v s = .ok u ∧ t = u.setSp (u.sp - 1) := by
  obtain ⟨u, hu, ht⟩ := bind_ok.mp h
  exact ⟨u, hu, (Except.ok.inj ht).symm⟩

theorem memWrite_registers {addr : Addr} {v : Byte} {s t : State} (h : memWrite addr v s = .ok t) :
    t.a = s.a ∧ t.x = s.x ∧ t.y = s.y ∧ t.sp = s.sp ∧ t.flags = s.flags := by
  obtain ⟨-, ⟨n, -, rfl⟩ | ⟨w, off, -, rfl⟩⟩ := memWrite_ok h <;> exact ⟨rfl, rfl, rfl, rfl, rfl⟩

theorem push_registers {v : Byte} {s t : State} (h : push v s = .ok t) :
    t.a = s.a ∧ t.x = s.x ∧ t.y = s.y ∧ t.sp = s.sp - 1 ∧ t.flags = s.flags := by
  obtain ⟨u, hu, rfl⟩ := push_ok h
  obtain ⟨ha, hx, hy, hs, hf⟩ := memWrite_registers hu
  exact ⟨ha, hx, hy, by simp [hs], hf⟩

theorem pull_observed {s t : State} {v : Byte} (h : pull s = .ok (v, t)) : Observed (s.setSp (s.sp + 1)) t :=
  memRead_observed h

/-- What a completed push of a word leaves: two writes at `STACK_PAGE:S`, S down by one after each. -/
theorem pushWord_ok {v : Addr} {s t : State} (h : pushWord v s = .ok t) :
    ∃ u w, memWrite (stackAddr s.sp) (hiByte v) s = .ok u ∧
      memWrite (stackAddr (s.sp - 1)) (loByte v) (u.setSp (s.sp - 1)) = .ok w ∧ t = w.setSp (s.sp - 2) := by
  obtain ⟨t', h, k⟩ := bind_ok.mp h
  obtain ⟨u, hu, rfl⟩ := push_ok h
  obtain ⟨w, hw, rfl⟩ := push_ok k
  have hs := (memWrite_registers hu).2.2.2.1
  have ht := (memWrite_registers hw).2.2.2.1
  simp only [State.setSp_sp, hs] at hw ht
  refine ⟨u, w, hu, hw, ?_⟩
  rw [ht, BitVec.sub_sub]
  rfl

/-- What a completed pull of a word leaves: two reads at `STACK_PAGE:S`, S up by one before each. -/
theorem pullWord_ok {s t : State} {v : Addr} (h : pullWord s = .ok (v, t)) :
    ∃ lo u hi, memRead (stackAddr (s.sp + 1)) (s.setSp (s.sp + 1)) = .ok (lo, u) ∧
      memRead (stackAddr (s.sp + 2)) (u.setSp (s.sp + 2)) = .ok (hi, t) ∧ v = word hi lo ∧
      Observed (s.setSp (s.sp + 2)) t := by
  obtain ⟨⟨lo, u⟩, hu, h⟩ := bind_ok.mp h
  obtain ⟨⟨hi, w⟩, hw, h⟩ := bind_ok.mp h
  obtain ⟨rfl, rfl⟩ := Prod.mk.inj (Except.ok.inj h)
  have ho := pull_observed hu
  have hs : u.sp + 1 = s.sp + 2 := by
    rw [ho.sp, State.setSp_sp, BitVec.add_assoc]
    rfl
  have hw' : memRead (stackAddr (s.sp + 2)) (u.setSp (s.sp + 2)) = .ok (hi, w) := by
    rw [← hs]
    exact hw
  refine ⟨lo, u, hi, hu, hw', rfl, ?_⟩
  have hk := memRead_observed hw'
  unfold Observed at *
  rw [hk, ho]
  rfl

/-- What a completed read of a vector leaves. -/
theorem readVector_ok {vector : Addr} {s t : State} {v : Addr} (h : readVector vector s = .ok (v, t)) :
    ∃ lo u hi, memRead vector s = .ok (lo, u) ∧ memRead (vector + 1) u = .ok (hi, t) ∧ v = word hi lo ∧
      Observed s t := by
  obtain ⟨⟨lo, u⟩, hu, h⟩ := bind_ok.mp h
  obtain ⟨⟨hi, w⟩, hw, h⟩ := bind_ok.mp h
  obtain ⟨rfl, rfl⟩ := Prod.mk.inj (Except.ok.inj h)
  exact ⟨lo, u, hi, hu, hw, rfl, (memRead_observed hu).trans (memRead_observed hw)⟩

/-! ### The resolver -/

theorem readZeroPagePointer_inside (z : Byte) (s : State) : Inside s Prod.snd (readZeroPagePointer z s) :=
  (memRead_inside _ s).bind fun b => (memRead_inside _ b.2).bind fun c => .ok (.refl c.2)

theorem readZeroPagePointer_observed {z : Byte} {s t : State} {p : Addr}
    (h : readZeroPagePointer z s = .ok (p, t)) : Observed s t := by
  obtain ⟨⟨lo, u⟩, hu, h⟩ := bind_ok.mp h
  obtain ⟨⟨hi, w⟩, hw, h⟩ := bind_ok.mp h
  obtain ⟨-, rfl⟩ := Prod.mk.inj (Except.ok.inj h)
  exact (memRead_observed hu).trans (memRead_observed hw)

theorem effAddr_inside (m : MemOperand) (s : State) : Inside s Prod.snd (effAddr m s) := by
  cases m with
  | indirect p => exact (memRead_inside _ s).bind fun b => (memRead_inside _ b.2).bind fun c => .ok (.refl c.2)
  | indirectX z => exact (readZeroPagePointer_inside _ s).bind fun b => .ok (.refl b.2)
  | indirectY z => exact (readZeroPagePointer_inside _ s).bind fun b => .ok (.refl b.2)
  | _ => exact .ok (.refl s)

/-- Resolving an address changes only what the bus exposes: the resolver reads and never writes (R42, R86). -/
theorem effAddr_observed {m : MemOperand} {s t : State} {e : EffAddr} (h : effAddr m s = .ok (e, t)) :
    Observed s t := by
  cases m with
  | indirect p =>
    obtain ⟨⟨lo, u⟩, hu, h⟩ := bind_ok.mp h
    obtain ⟨⟨hi, w⟩, hw, h⟩ := bind_ok.mp h
    obtain ⟨-, rfl⟩ := Prod.mk.inj (Except.ok.inj h)
    exact (memRead_observed hu).trans (memRead_observed hw)
  | indirectX z =>
    obtain ⟨⟨p, u⟩, hu, h⟩ := bind_ok.mp h
    obtain ⟨-, rfl⟩ := Prod.mk.inj (Except.ok.inj h)
    exact readZeroPagePointer_observed hu
  | indirectY z =>
    obtain ⟨⟨p, u⟩, hu, h⟩ := bind_ok.mp h
    obtain ⟨-, rfl⟩ := Prod.mk.inj (Except.ok.inj h)
    exact readZeroPagePointer_observed hu
  | _ =>
    obtain ⟨-, rfl⟩ := Prod.mk.inj (Except.ok.inj h)
    exact .refl _

theorem resolve_inside (o : Operand) (s : State) : Inside s Prod.snd (resolve o s) := by
  cases o with
  | memory m => exact (effAddr_inside m s).bind fun b => .ok (.refl b.2)
  | _ => exact .ok (.refl s)

/-- Resolving an operand changes only what the bus exposes (R86). -/
theorem resolve_observed {o : Operand} {s t : State} {r : Resolved} (h : resolve o s = .ok (r, t)) : Observed s t := by
  cases o with
  | memory m =>
    obtain ⟨⟨e, u⟩, hu, h⟩ := bind_ok.mp h
    obtain ⟨-, rfl⟩ := Prod.mk.inj (Except.ok.inj h)
    exact effAddr_observed hu
  | _ =>
    obtain ⟨-, rfl⟩ := Prod.mk.inj (Except.ok.inj h)
    exact .refl _

theorem load_inside (l : Loc) (s : State) : Inside s Prod.snd (load l s) := by
  cases l with
  | mem addr => exact memRead_inside addr s
  | _ => exact .ok (.refl s)

theorem load_observed {l : Loc} {s t : State} {v : Byte} (h : load l s = .ok (v, t)) : Observed s t := by
  cases l with
  | mem addr => exact memRead_observed h
  | _ =>
    obtain ⟨-, rfl⟩ := Prod.mk.inj (Except.ok.inj h)
    exact .refl _

theorem store_inside (l : Loc) (v : Byte) (s : State) : Inside s id (store l v s) := by
  cases l with
  | acc => exact .ok (.setA s v)
  | imm w => exact .ok (.refl s)
  | mem addr => exact memWrite_inside addr v s

theorem readOperand_inside (o : Operand) (s : State) : Inside s Prod.snd (readOperand o s) :=
  (resolve_inside o s).bind fun b => load_inside b.1.loc b.2

/-- Reading an operand changes only what the bus exposes. -/
theorem readOperand_observed {o : Operand} {s t : State} {v : Byte} (h : readOperand o s = .ok (v, t)) :
    Observed s t := by
  obtain ⟨⟨r, u⟩, hu, h⟩ := bind_ok.mp h
  exact (resolve_observed hu).trans (load_observed h)

/-! ### Faults of reads -/

/-- The fault of a read, raised before anything was committed. -/
def ReadFault (s : State) (f : Fault) : Prop := ∃ u addr, Observed s u ∧ f = raiseRead addr u

theorem ReadFault.after {s t : State} {f : Fault} (h : Observed s t) (k : ReadFault t f) : ReadFault s f := by
  obtain ⟨u, addr, hu, hf⟩ := k
  exact ⟨u, addr, h.trans hu, hf⟩

/-- A faulting read commits nothing (60_exceptions.md R172). -/
theorem ReadFault.nothingCommitted {s : State} {f : Fault} (h : ReadFault s f) : NothingCommitted s f := by
  obtain ⟨u, addr, hu, rfl⟩ := h
  exact ⟨⟨hu.a, hu.x, hu.y, hu.sp, hu.flags⟩, hu.pc, hu.mem⟩

theorem memRead_readFault {s : State} {addr : Addr} {f : Fault} (h : memRead addr s = .error f) : ReadFault s f :=
  ⟨s, addr, .refl s, (memRead_error h).2⟩

theorem readZeroPagePointer_error {z : Byte} {s : State} {f : Fault} (h : readZeroPagePointer z s = .error f) :
    ReadFault s f := by
  obtain h | ⟨⟨lo, u⟩, hu, h⟩ := bind_error.mp h
  · exact memRead_readFault h
  · obtain h | ⟨⟨hi, w⟩, hw, h⟩ := bind_error.mp h
    · exact .after (memRead_observed hu) (memRead_readFault h)
    · cases h

theorem effAddr_error {m : MemOperand} {s : State} {f : Fault} (h : effAddr m s = .error f) : ReadFault s f := by
  cases m with
  | indirect p =>
    obtain h | ⟨⟨lo, u⟩, hu, h⟩ := bind_error.mp h
    · exact memRead_readFault h
    · obtain h | ⟨⟨hi, w⟩, hw, h⟩ := bind_error.mp h
      · exact .after (memRead_observed hu) (memRead_readFault h)
      · cases h
  | indirectX z =>
    obtain h | ⟨b, hb, h⟩ := bind_error.mp h
    · exact readZeroPagePointer_error h
    · cases h
  | indirectY z =>
    obtain h | ⟨b, hb, h⟩ := bind_error.mp h
    · exact readZeroPagePointer_error h
    · cases h
  | _ => cases h

theorem resolve_error {o : Operand} {s : State} {f : Fault} (h : resolve o s = .error f) : ReadFault s f := by
  cases o with
  | memory m =>
    obtain h | ⟨b, hb, h⟩ := bind_error.mp h
    · exact effAddr_error h
    · cases h
  | _ => cases h

theorem load_error {l : Loc} {s : State} {f : Fault} (h : load l s = .error f) : ReadFault s f := by
  cases l with
  | mem addr => exact memRead_readFault h
  | _ => cases h

theorem readOperand_error {o : Operand} {s : State} {f : Fault} (h : readOperand o s = .error f) : ReadFault s f := by
  obtain h | ⟨⟨r, u⟩, hu, h⟩ := bind_error.mp h
  · exact resolve_error h
  · exact .after (resolve_observed hu) (load_error h)

/-- An address that could be read can be written: the translation does not depend on the kind of access (R32). -/
theorem memWrite_after_read {s t u : State} {addr : Addr} {b : Byte} (h : memRead addr s = .ok (b, t))
    (hu : u.platform = s.platform) (v : Byte) : ∃ w, memWrite addr v u = .ok w :=
  memWrite_answers (hu ▸ (memRead_ok h).1)

/-! ### Where every access answers, nothing faults -/

theorem Inside.answers {α : Type} {s : State} {state : α → State} {r : Except Fault α} (h : Inside s state r)
    (hs : AllAnswer s.platform) : ∃ b, r = .ok b := by
  cases r with
  | ok b => exact ⟨b, rfl⟩
  | error f =>
    obtain ⟨u, addr, -, ha, -⟩ := h.2 f rfl
    exact absurd ha (hs addr)

end Sys2Proof.Machine
end

