-- ==== Sys2Proof/Laws/Exec.lean ====
section
/-! SUPPORT. `exec` said by mnemonic and operand instead of by opcode: `exec i` is `finish (perform i)`, where `perform`
has one case per mnemonic of R54 and one for the undocumented opcodes. Later proofs split on 56 mnemonics, not on 256
constructors. -/

namespace Sys2Proof.Machine

/-- The address operand of an instruction whose rule starts from `Mem(t) = loc`. -/
def withAddress (o : Operand) (f : MemOperand → Except Fault State) (s : State) : Except Fault State :=
  match o with
  | .memory m => f m
  | _ => .ok s

/-- The offset byte of a branch. -/
def withOffset (o : Operand) (f : Byte → State) (s : State) : State :=
  match o with
  | .relative off => f off
  | _ => s

/-- What an instruction's rule computes, by its mnemonic. -/
def perform (i : Instr) (s : State) : Except Fault State :=
  match i.mnemonic with
  | .adc => opAdc i.operand s
  | .sbc => opSbc i.operand s
  | .cmp => opCmp i.operand s
  | .cpx => opCpx i.operand s
  | .cpy => opCpy i.operand s
  | .and => opAnd i.operand s
  | .ora => opOra i.operand s
  | .eor => opEor i.operand s
  | .bit => opBit i.operand s
  | .asl => opAsl i.operand s
  | .lsr => opLsr i.operand s
  | .rol => opRol i.operand s
  | .ror => opRor i.operand s
  | .inc => opInc i.operand s
  | .dec => opDec i.operand s
  | .lda => opLda i.operand s
  | .ldx => opLdx i.operand s
  | .ldy => opLdy i.operand s
  | .sta => withAddress i.operand (opSta · s) s
  | .stx => withAddress i.operand (opStx · s) s
  | .sty => withAddress i.operand (opSty · s) s
  | .jmp => withAddress i.operand (opJmp · s) s
  | .jsr => withAddress i.operand (opJsr · s) s
  | .inx => .ok (opInx s)
  | .iny => .ok (opIny s)
  | .dex => .ok (opDex s)
  | .dey => .ok (opDey s)
  | .tax => .ok (opTax s)
  | .tay => .ok (opTay s)
  | .txa => .ok (opTxa s)
  | .tya => .ok (opTya s)
  | .tsx => .ok (opTsx s)
  | .txs => .ok (opTxs s)
  | .nop => .ok (opNop s)
  | .rts => opRts s
  | .pha => opPha s
  | .php => opPhp s
  | .pla => opPla s
  | .plp => opPlp s
  | .brk => opBrk s
  | .rti => opRti s
  | .clc => .ok (opFlag { s.flags with c := false } s)
  | .sec => .ok (opFlag { s.flags with c := true } s)
  | .cli => .ok (opFlag { s.flags with i := false } s)
  | .sei => .ok (opFlag { s.flags with i := true } s)
  | .cld => .ok (opFlag { s.flags with d := false } s)
  | .sed => .ok (opFlag { s.flags with d := true } s)
  | .clv => .ok (opFlag { s.flags with v := false } s)
  | .bcc | .bcs | .beq | .bne | .bmi | .bpl | .bvc | .bvs =>
    .ok (withOffset i.operand (opBranch ((branchTaken i.mnemonic s.flags).getD false) · s) s)
  | .jam | .slo | .nopUndoc | .anc | .rla | .sre | .alr | .rra | .arr | .sax | .xaa
  | .ahx | .tas | .shy | .shx | .lax | .las | .dcp | .axs | .isc | .sbcUndoc =>
    diagnosed i.opcode i.operand s

theorem exec_eq_perform (i : Instr) (s : State) : exec i s = finish (perform i s) := by
  cases i <;> rfl

/-- No instruction is refused. -/
theorem exec_ne_refused (i : Instr) (s : State) (q : Refusal) : exec i s ≠ .refused q := by
  rw [exec_eq_perform]
  exact finish_ne_refused

/-- An instruction that writes its location never has an operand byte as location (40_addressing.md R75). -/
theorem modify_never_immediate (i : Instr) (v : Byte)
    (h : i.mnemonic ∈ [.asl, .lsr, .rol, .ror, .inc, .dec, .sta, .stx, .sty]) : i.operand ≠ .immediate v := by
  cases i <;> first | (simp [Instr.operand]; done) | (simp [Instr.mnemonic] at h)

/-- The instructions that read, change and write one location have it in A or in memory (R74, R86). -/
theorem modify_operand (i : Instr) (h : i.mnemonic ∈ [.asl, .lsr, .rol, .ror, .inc, .dec]) :
    i.operand = .accumulator ∨ ∃ m, i.operand = .memory m := by
  cases i <;> first | exact .inl rfl | exact .inr ⟨_, rfl⟩ | (simp [Instr.mnemonic] at h)

/-- The documented instructions without operand bytes, other than those on A (R73). -/
theorem implicit_operand (i : Instr) (h : i.mnemonic ∈ [.inx, .iny, .dex, .dey, .tax, .tay, .txa, .tya, .tsx, .txs, .nop,
    .rts, .pha, .php, .pla, .plp, .brk, .rti, .clc, .sec, .cli, .sei, .cld, .sed, .clv]) : i.operand = .implicit := by
  cases i <;> first | rfl | (simp [Instr.mnemonic] at h)

/-- The instructions whose rule starts from `Mem(t) = loc` have a memory operand (R139, R140, R125 to R127). -/
theorem memory_operand (i : Instr) (h : i.mnemonic ∈ [.sta, .stx, .sty, .jmp, .jsr]) : ∃ m, i.operand = .memory m := by
  cases i <;> first | exact ⟨_, rfl⟩ | (simp [Instr.mnemonic] at h)

/-- A branch has a relative operand (R76). -/
theorem relative_operand (i : Instr) (f : Flags) (h : (branchTaken i.mnemonic f).isSome) : ∃ off, i.operand = .relative off := by
  cases i <;> first | exact ⟨_, rfl⟩ | (simp [Instr.mnemonic, branchTaken] at h)

/-! ### What a completed shared operation leaves -/

/-- A rule that reads its operand and then writes registers and flags only. -/
theorem read_ok {o : Operand} {s t : State} {g : Byte × State → State}
    (h : (readOperand o s >>= fun b => .ok (g b)) = .ok t) :
    ∃ m u, readOperand o s = .ok (m, u) ∧ Observed s u ∧ t = g (m, u) := by
  obtain ⟨⟨m, u⟩, hu, h⟩ := bind_ok.mp h
  exact ⟨m, u, hu, readOperand_observed hu, (Except.ok.inj h).symm⟩

theorem opModify_ok {value : Byte → Bool → Byte} {flags : Byte → Byte → Flags → Flags} {o : Operand} {s t : State}
    (h : opModify value flags o s = .ok t) :
    ∃ r u m v w, resolve o s = .ok (r, u) ∧ load r.loc u = .ok (m, v) ∧ Observed s v ∧
      store r.loc (value m s.flags.c) v = .ok w ∧
      t = next (operandSize o) (w.setFlags (flags m (value m s.flags.c) w.flags)) := by
  obtain ⟨⟨r, u⟩, hu, h⟩ := bind_ok.mp h
  obtain ⟨⟨m, v⟩, hv, h⟩ := bind_ok.mp h
  obtain ⟨w, hw, h⟩ := bind_ok.mp h
  have ho := (resolve_observed hu).trans (load_observed hv)
  have hc : v.flags.c = s.flags.c := by rw [ho.flags]
  simp only [hc] at hw h
  exact ⟨r, u, m, v, w, hu, hv, ho, hw, (Except.ok.inj h).symm⟩

theorem opStore_ok {reg : State → Byte} {m : MemOperand} {s t : State} (h : opStore reg m s = .ok t) :
    ∃ e u w, effAddr m s = .ok (e, u) ∧ Observed s u ∧ memWrite e.addr (reg u) u = .ok w ∧
      t = next (operandSize (.memory m)) w := by
  obtain ⟨⟨e, u⟩, hu, h⟩ := bind_ok.mp h
  obtain ⟨w, hw, h⟩ := bind_ok.mp h
  exact ⟨e, u, w, hu, effAddr_observed hu, hw, (Except.ok.inj h).symm⟩

theorem diagnosed_ok {op : Byte} {o : Operand} {s t : State} (h : diagnosed op o s = .ok t) :
    ∃ r u, resolve o s = .ok (r, u) ∧ Observed s u ∧
      t = next (operandSize o) (u.report (.doneDiag op s.pc)) := by
  obtain ⟨⟨r, u⟩, hu, h⟩ := bind_ok.mp h
  have ho := resolve_observed hu
  have ht := (Except.ok.inj h).symm
  simp only [ho.pc] at ht
  exact ⟨r, u, hu, ho, ht⟩

theorem takeTrap_ok {ret vector : Addr} {b4 : Bool} {s t : State} (h : takeTrap ret vector b4 s = .ok t) :
    ∃ u w x v y, pushWord ret s = .ok u ∧ memWrite (stackAddr (s.sp - 2)) (s.flags.pByte b4) u = .ok w ∧
      x = (w.setSp (s.sp - 3)).setFlags { s.flags with i := true } ∧ readVector vector x = .ok (v, y) ∧
      t = y.setPc v := by
  obtain ⟨u, hu, h₁⟩ := bind_ok.mp h
  obtain ⟨x, hx, h₂⟩ := bind_ok.mp h₁
  obtain ⟨⟨v, y⟩, hy, h₃⟩ := bind_ok.mp h₂
  obtain ⟨w, hw, rfl⟩ := push_ok hx
  obtain ⟨p, q, hp, hq, rfl⟩ := pushWord_ok hu
  have fp := (memWrite_registers hp).2.2.2.2
  have fq := (memWrite_registers hq).2.2.2.2
  have rw' := memWrite_registers hw
  have fw : w.flags = s.flags := rw'.2.2.2.2.trans (fq.trans fp)
  have sw : w.sp - 1 = s.sp - 3 := by
    rw [rw'.2.2.2.1, State.setSp_sp, BitVec.sub_sub]
    rfl
  have fq' : (q.setSp (s.sp - 2)).flags = s.flags := fq.trans fp
  rw [fq', State.setSp_sp] at hw
  simp only [State.setSp_flags, fw, sw] at hy
  exact ⟨_, w, _, v, y, hu, hw, rfl, hy, (Except.ok.inj h₃).symm⟩

theorem returnFromTrap_ok {s t : State} (h : returnFromTrap s = .ok t) :
    ∃ p u v w, pull s = .ok (p, u) ∧ pullWord (u.setFlags (Flags.ofByte p)) = .ok (v, w) ∧ t = w.setPc v := by
  obtain ⟨⟨p, u⟩, hu, h⟩ := bind_ok.mp h
  obtain ⟨⟨v, w⟩, hw, h⟩ := bind_ok.mp h
  exact ⟨p, u, v, w, hu, hw, (Except.ok.inj h).symm⟩

/-! ### The end of an instruction -/

/-- `t` is what an instruction may leave when it began in `s`: the platform is the same, the storage cells keep their
canonical form, and the transactions and device accesses only grow. -/
structure Later (s t : State) : Prop where
  platform : t.platform = s.platform
  wf : Memory.wf s.mem → Memory.wf t.mem
  trace : ∃ l, t.trace = s.trace ++ l
  deviceLog : ∃ l, t.deviceLog = s.deviceLog ++ l

theorem Progress.later {s t : State} (h : Progress s t) : Later s t := ⟨h.platform, h.wf, h.trace, h.deviceLog⟩

theorem Later.after {s t u : State} (h : Progress s t) (k : Later t u) : Later s u := by
  obtain ⟨l, hl⟩ := h.trace
  obtain ⟨l', hl'⟩ := k.trace
  obtain ⟨d, hd⟩ := h.deviceLog
  obtain ⟨d', hd'⟩ := k.deviceLog
  exact ⟨k.platform.trans h.platform, fun w => k.wf (h.wf w), ⟨l ++ l', by simp [hl', hl]⟩, ⟨d ++ d', by simp [hd', hd]⟩⟩

/-- A state with the same storage cells, platform, transactions and device accesses. -/
theorem Later.of_eq {s t : State} (hp : t.platform = s.platform) (hm : t.mem = s.mem) (ht : t.trace = s.trace)
    (hd : t.deviceLog = s.deviceLog) : Later s t :=
  ⟨hp, fun w => hm ▸ w, ⟨[], by simp [ht]⟩, ⟨[], by simp [hd]⟩⟩

/-- `r` is what an instruction that began in `s` computes: a state it may leave, or the fault of one of its accesses. -/
def Ends (s : State) (r : Except Fault State) : Prop :=
  (∀ t, r = .ok t → Later s t) ∧ ∀ f, r = .error f → FaultFrom s f

theorem Ends.ok {s t : State} (h : Later s t) : Ends s (.ok t) :=
  ⟨fun _ e => by cases e; exact h, fun _ e => by cases e⟩

theorem Ends.bind {α : Type} {s : State} {state : α → State} {x : Except Fault α} {g : α → Except Fault State}
    (hx : Inside s state x) (hg : ∀ b, Ends (state b) (g b)) : Ends s (x >>= g) := by
  cases x with
  | ok b => exact ⟨fun t ht => .after (hx.1 b rfl) ((hg b).1 t ht), fun f hf => .after (hx.1 b rfl) ((hg b).2 f hf)⟩
  | error e => exact ⟨fun _ ht => (nomatch ht), fun f hf => by cases hf; exact hx.2 e rfl⟩

theorem Ends.from {s t : State} {r : Except Fault State} (h : Progress s t) (k : Ends t r) : Ends s r :=
  ⟨fun u hu => .after h (k.1 u hu), fun f hf => .after h (k.2 f hf)⟩

/-- A rule that reads its operand and then writes registers and flags only. -/
theorem Ends.read {o : Operand} {s : State} {g : Byte × State → State} (hg : ∀ b, Later b.2 (g b)) :
    Ends s (readOperand o s >>= fun b => .ok (g b)) :=
  .bind (readOperand_inside o s) fun b => .ok (hg b)

theorem opModify_ends (value : Byte → Bool → Byte) (flags : Byte → Byte → Flags → Flags) (o : Operand) (s : State) :
    Ends s (opModify value flags o s) :=
  .bind (resolve_inside o s) fun b => .bind (load_inside b.1.loc b.2) fun c =>
    .bind (store_inside b.1.loc _ c.2) fun _ => .ok (.of_eq rfl rfl rfl rfl)

theorem diagnosed_ends (op : Byte) (o : Operand) (s : State) : Ends s (diagnosed op o s) :=
  .bind (resolve_inside o s) fun _ => .ok (.of_eq rfl rfl rfl rfl)

theorem takeTrap_ends (ret vector : Addr) (b4 : Bool) (s : State) : Ends s (takeTrap ret vector b4 s) :=
  .bind (pushWord_inside ret s) fun t => .bind (push_inside _ t) fun u =>
    .from (.setFlags u _) (.bind (readVector_inside vector _) fun _ => .ok (.of_eq rfl rfl rfl rfl))

theorem returnFromTrap_ends (s : State) : Ends s (returnFromTrap s) :=
  .bind (pull_inside s) fun b => .from (.setFlags b.2 _) (.bind (pullWord_inside _) fun _ => .ok (.of_eq rfl rfl rfl rfl))

theorem withAddress_ends {o : Operand} {f : MemOperand → Except Fault State} {s : State} (h : ∀ m, Ends s (f m)) :
    Ends s (withAddress o f s) := by
  cases o with
  | memory m => exact h m
  | _ => exact .ok (.of_eq rfl rfl rfl rfl)

theorem store_register_ends (m : MemOperand) (v : State → Byte) (n : Nat) (s : State) :
    Ends s (effAddr m s >>= fun b => memWrite b.1.addr (v b.2) b.2 >>= fun t => .ok (next n t)) :=
  .bind (effAddr_inside m s) fun _ => .bind (memWrite_inside _ _ _) fun _ => .ok (.of_eq rfl rfl rfl rfl)

/-- Everything an instruction can do to what the invariant and the driver see, said once for all 256. -/
theorem perform_ends (i : Instr) (s : State) : Ends s (perform i s) := by
  unfold perform
  cases i.mnemonic with
  | adc | sbc | cmp | cpx | cpy | and | ora | eor | bit | lda | ldx | ldy => exact .read fun _ => .of_eq rfl rfl rfl rfl
  | asl | lsr | rol | ror | inc | dec => exact opModify_ends _ _ _ _
  | sta => exact withAddress_ends fun m => store_register_ends m (·.a) _ s
  | stx => exact withAddress_ends fun m => store_register_ends m (·.x) _ s
  | sty => exact withAddress_ends fun m => store_register_ends m (·.y) _ s
  | jmp => exact withAddress_ends fun m => .bind (effAddr_inside m s) fun _ => .ok (.of_eq rfl rfl rfl rfl)
  | jsr =>
    exact withAddress_ends fun m => .bind (effAddr_inside m s) fun b =>
      .bind (pushWord_inside _ b.2) fun _ => .ok (.of_eq rfl rfl rfl rfl)
  | rts => exact .bind (pullWord_inside s) fun _ => .ok (.of_eq rfl rfl rfl rfl)
  | pha | php => exact .bind (push_inside _ s) fun _ => .ok (.of_eq rfl rfl rfl rfl)
  | pla | plp => exact .bind (pull_inside s) fun _ => .ok (.of_eq rfl rfl rfl rfl)
  | brk => exact takeTrap_ends _ _ _ s
  | rti => exact returnFromTrap_ends s
  | bcc | bcs | beq | bne | bmi | bpl | bvc | bvs =>
    refine .ok ?_
    unfold withOffset
    split
    · unfold opBranch
      split <;> exact .of_eq rfl rfl rfl rfl
    · exact .of_eq rfl rfl rfl rfl
  | inx | iny | dex | dey | tax | tay | txa | tya | tsx | txs | nop | clc | sec | cli | sei | cld | sed | clv =>
    exact .ok (.of_eq rfl rfl rfl rfl)
  | jam | slo | nopUndoc | anc | rla | sre | alr | rra | arr | sax | xaa | ahx | tas | shy | shx | lax | las | dcp | axs
  | isc | sbcUndoc => exact diagnosed_ends _ _ s

theorem exec_next {i : Instr} {s t : State} (h : exec i s = .next t) : Later s t :=
  (perform_ends i s).1 t (finish_eq_next.mp (exec_eq_perform i s ▸ h))

theorem exec_fault {i : Instr} {s : State} {f : Fault} (h : exec i s = .fault f) : FaultFrom s f :=
  (perform_ends i s).2 f (finish_eq_fault.mp (exec_eq_perform i s ▸ h))

/-- What a completed fetch leaves (40_addressing.md R71): it only reads. -/
theorem fetch_ok {s t : State} {i : Instr} (h : fetch s = .ok (i, t)) : Observed s t ∧ Progress s t := by
  obtain ⟨⟨op, u⟩, hu, h⟩ := bind_ok.mp h
  have hu' := memRead_observed hu
  have pu := (memRead_inside _ _).1 _ hu
  simp only at h
  split at h
  · cases h
    exact ⟨hu', pu⟩
  · obtain ⟨⟨b1, v⟩, hv, h⟩ := bind_ok.mp h
    cases h
    exact ⟨hu'.trans (memRead_observed hv), pu.trans ((memRead_inside _ _).1 _ hv)⟩
  · obtain ⟨⟨b1, v⟩, hv, h⟩ := bind_ok.mp h
    obtain ⟨⟨b2, w⟩, hw, h⟩ := bind_ok.mp h
    cases h
    exact ⟨(hu'.trans (memRead_observed hv)).trans (memRead_observed hw),
      (pu.trans ((memRead_inside _ _).1 _ hv)).trans ((memRead_inside _ _).1 _ hw)⟩

theorem fetch_error {s : State} {f : Fault} (h : fetch s = .error f) : ReadFault s f ∧ FaultFrom s f := by
  obtain h | ⟨⟨op, u⟩, hu, h⟩ := bind_error.mp h
  · exact ⟨memRead_readFault h, (memRead_inside _ _).2 _ h⟩
  have hu' := memRead_observed hu
  have pu := (memRead_inside _ _).1 _ hu
  simp only at h
  split at h
  · cases h
  · obtain h | ⟨⟨b1, v⟩, hv, h⟩ := bind_error.mp h
    · exact ⟨.after hu' (memRead_readFault h), .after pu ((memRead_inside _ _).2 _ h)⟩
    · cases h
  · obtain h | ⟨⟨b1, v⟩, hv, h⟩ := bind_error.mp h
    · exact ⟨.after hu' (memRead_readFault h), .after pu ((memRead_inside _ _).2 _ h)⟩
    · have hv' := memRead_observed hv
      have pv := (memRead_inside _ _).1 _ hv
      obtain h | ⟨⟨b2, w⟩, hw, h⟩ := bind_error.mp h
      · exact ⟨.after hu' (.after hv' (memRead_readFault h)), .after pu (.after pv ((memRead_inside _ _).2 _ h))⟩
      · cases h

end Sys2Proof.Machine
end

