-- ==== Sys2Proof/Machine/Assembler.lean ====
section
/-! DEFINITION. The assembler syntax of an instruction (30_encoding.md R62), as a disassembler. There are no
pseudo-instructions (R63). Presentation only: no rule of the machine reads it. -/

namespace Sys2Proof.Machine

/-- One hexadecimal digit. -/
def hexDigit (n : Nat) : String :=
  ["0", "1", "2", "3", "4", "5", "6", "7", "8", "9", "A", "B", "C", "D", "E", "F"].getD (n % 16) "?"

/-- `$nn`. -/
def hexByte (v : Byte) : String := "$" ++ hexDigit (v.toNat / 16) ++ hexDigit v.toNat

/-- `$nnnn`. -/
def hexWord (t : Addr) : String :=
  "$" ++ hexDigit (t.toNat / 4096) ++ hexDigit (t.toNat / 256) ++ hexDigit (t.toNat / 16) ++ hexDigit t.toNat

/-- The operand syntax of a memory mode. -/
def memText : MemOperand → String
  | .zeroPage z => " " ++ hexByte z
  | .zeroPageX z => " " ++ hexByte z ++ ",X"
  | .zeroPageY z => " " ++ hexByte z ++ ",Y"
  | .absolute a => " " ++ hexWord a
  | .absoluteX a => " " ++ hexWord a ++ ",X"
  | .absoluteY a => " " ++ hexWord a ++ ",Y"
  | .indirect p => " (" ++ hexWord p ++ ")"
  | .indirectX z => " (" ++ hexByte z ++ ",X)"
  | .indirectY z => " (" ++ hexByte z ++ "),Y"

/-- The operand syntax of a mode at `start`; a branch shows its target. -/
def operandText (start : Addr) : Operand → String
  | .implicit => ""
  | .accumulator => " A"
  | .immediate v => " #" ++ hexByte v
  | .relative off => " " ++ hexWord (start + 2 + off.signExtend 16)
  | .memory m => memText m

/-- The line of an instruction at `start`. An undocumented opcode has no assembler form: its bytes stand as data. -/
def disassemble (start : Addr) (i : Instr) : String :=
  if i.mnemonic.documented then i.mnemonic.label ++ operandText start i.operand
  else ".byte " ++ String.intercalate "," ((encode i).map hexByte)

end Sys2Proof.Machine
end

