-- ==== Sys2Proof/Tests/Slice0.lean ====
section
/-! SUPPORT. The model's own tests. Expected results come from the spec: the vectors V and B of 95_test_vectors.md, the
opcode table (30_encoding.md R54, R57, R58), the examples of R62. The last part gives, for every obligation with hypotheses, a
state and operands that meet them. -/

namespace Sys2Proof.Tests

open Sys2Proof.Machine

/-! ### Helpers -/

/-- The initial state of 95_test_vectors.md: FLAT_BUS, PC = 0x0200, S = 0xFD, everything else 0. -/
def start : State :=
  { State.reset with
    pc := 0x0200
    flags := { c := false, z := false, i := false, d := false, v := false, n := false }
    platform := Config.flatBus
    trace := [] }

/-- FLAT_BUS with an unhandled reserved window at one address. -/
def reservedAt (n : Nat) : Platform := { Config.flatBus with rsv2 := some { range := ⟨n, n⟩, handled := false } }

/-- Place bytes in cells. -/
def pokes : List (Addr × Byte) → State → State
  | [], s => s
  | (addr, v) :: rest, s => pokes rest (pokeCell addr v s)

/-- `s` with an instruction's bytes at PC and the given cells. -/
def loaded (bytes : List Byte) (cells : List (Addr × Byte)) (s : State) : State :=
  pokes cells (pokeBytes s.pc bytes s)

/-- The state after one completed step. -/
def ran (bytes : List Byte) (cells : List (Addr × Byte)) (s : State) : Option State :=
  match step (loaded bytes cells s) with
  | .next t => some t
  | _ => none

/-- The state one step leaves that ends in BusFault, with a reserved window at `n`. -/
def faulted (n : Nat) (bytes : List Byte) (cells : List (Addr × Byte)) (s : State) : Option State :=
  match step { loaded bytes cells s with platform := reservedAt n } with
  | .fault f => some f.left
  | _ => none

/-- A cell, as the inspection port shows it. -/
def cell (addr : Addr) (t : State) : Byte := (inspectCell addr t).getD 0

/-- The flags in the order of 95_test_vectors.md. -/
def nvdizc (t : State) : List Nat :=
  [t.flags.n, t.flags.v, t.flags.d, t.flags.i, t.flags.z, t.flags.c].map Bool.toNat

/-! ### WellFormed: forms that no opcode has (R55) are refused, the others accepted -/

theorem test_wf_store_immediate : Form.wf ⟨.sta, .immediate 0x10⟩ = false := by decide
theorem test_wf_store_indexed_y : Form.wf ⟨.sta, .memory (.zeroPageY 0x10)⟩ = false := by decide
theorem test_wf_jump_zero_page : Form.wf ⟨.jmp, .memory (.zeroPage 0x10)⟩ = false := by decide
theorem test_wf_jsr_indirect : Form.wf ⟨.jsr, .memory (.indirect 0x1234)⟩ = false := by decide
theorem test_wf_ldx_indexed_x : Form.wf ⟨.ldx, .memory (.absoluteX 0x1234)⟩ = false := by decide
theorem test_wf_bit_immediate : Form.wf ⟨.bit, .immediate 0x10⟩ = false := by decide
theorem test_wf_inc_accumulator : Form.wf ⟨.inc, .accumulator⟩ = false := by decide
theorem test_wf_asl_implicit : Form.wf ⟨.asl, .implicit⟩ = false := by decide
theorem test_wf_branch_absolute : Form.wf ⟨.bne, .memory (.absolute 0x1234)⟩ = false := by decide
theorem test_wf_clc_operand : Form.wf ⟨.clc, .immediate 0x10⟩ = false := by decide
theorem test_wf_accepts :
    Form.wf ⟨.sta, .memory (.indirectY 0x10)⟩ = true ∧ Form.wf ⟨.jmp, .memory (.indirect 0x1234)⟩ = true ∧
      Form.wf ⟨.ldx, .memory (.zeroPageY 0x10)⟩ = true ∧ Form.wf ⟨.asl, .accumulator⟩ = true := by decide

/-! ### Decoding: the bytes of every constructor, written out from the opcode map (R57), operand bytes 34 12 -/

/-- Every byte string decodes to the instruction beside it, whose bytes it is. -/
def decodesTo (rows : List (List Byte × Instr)) : Bool :=
  rows.all fun r => decide (decode r.1 = .ok (r.2, []) ∧ encode r.2 = r.1)

theorem test_decode_row0 : decodesTo
    [([0x00], .brk), ([0x01, 0x34], .oraIndX 0x34), ([0x02], .jam02), ([0x03, 0x34], .slo03 0x34),
     ([0x04, 0x34], .nop04 0x34), ([0x05, 0x34], .oraZp 0x34), ([0x06, 0x34], .aslZp 0x34),
     ([0x07, 0x34], .slo07 0x34), ([0x08], .php), ([0x09, 0x34], .oraImm 0x34), ([0x0A], .aslAcc),
     ([0x0B, 0x34], .anc0B 0x34), ([0x0C, 0x34, 0x12], .nop0C 0x1234), ([0x0D, 0x34, 0x12], .oraAbs 0x1234),
     ([0x0E, 0x34, 0x12], .aslAbs 0x1234), ([0x0F, 0x34, 0x12], .slo0F 0x1234)] = true := by decide

theorem test_decode_row1 : decodesTo
    [([0x10, 0x34], .bpl 0x34), ([0x11, 0x34], .oraIndY 0x34), ([0x12], .jam12), ([0x13, 0x34], .slo13 0x34),
     ([0x14, 0x34], .nop14 0x34), ([0x15, 0x34], .oraZpX 0x34), ([0x16, 0x34], .aslZpX 0x34),
     ([0x17, 0x34], .slo17 0x34), ([0x18], .clc), ([0x19, 0x34, 0x12], .oraAbsY 0x1234), ([0x1A], .nop1A),
     ([0x1B, 0x34, 0x12], .slo1B 0x1234), ([0x1C, 0x34, 0x12], .nop1C 0x1234),
     ([0x1D, 0x34, 0x12], .oraAbsX 0x1234), ([0x1E, 0x34, 0x12], .aslAbsX 0x1234),
     ([0x1F, 0x34, 0x12], .slo1F 0x1234)] = true := by decide

theorem test_decode_row2 : decodesTo
    [([0x20, 0x34, 0x12], .jsrAbs 0x1234), ([0x21, 0x34], .andIndX 0x34), ([0x22], .jam22),
     ([0x23, 0x34], .rla23 0x34), ([0x24, 0x34], .bitZp 0x34), ([0x25, 0x34], .andZp 0x34),
     ([0x26, 0x34], .rolZp 0x34), ([0x27, 0x34], .rla27 0x34), ([0x28], .plp), ([0x29, 0x34], .andImm 0x34),
     ([0x2A], .rolAcc), ([0x2B, 0x34], .anc2B 0x34), ([0x2C, 0x34, 0x12], .bitAbs 0x1234),
     ([0x2D, 0x34, 0x12], .andAbs 0x1234), ([0x2E, 0x34, 0x12], .rolAbs 0x1234),
     ([0x2F, 0x34, 0x12], .rla2F 0x1234)] = true := by decide

theorem test_decode_row3 : decodesTo
    [([0x30, 0x34], .bmi 0x34), ([0x31, 0x34], .andIndY 0x34), ([0x32], .jam32), ([0x33, 0x34], .rla33 0x34),
     ([0x34, 0x34], .nop34 0x34), ([0x35, 0x34], .andZpX 0x34), ([0x36, 0x34], .rolZpX 0x34),
     ([0x37, 0x34], .rla37 0x34), ([0x38], .sec), ([0x39, 0x34, 0x12], .andAbsY 0x1234), ([0x3A], .nop3A),
     ([0x3B, 0x34, 0x12], .rla3B 0x1234), ([0x3C, 0x34, 0x12], .nop3C 0x1234),
     ([0x3D, 0x34, 0x12], .andAbsX 0x1234), ([0x3E, 0x34, 0x12], .rolAbsX 0x1234),
     ([0x3F, 0x34, 0x12], .rla3F 0x1234)] = true := by decide

theorem test_decode_row4 : decodesTo
    [([0x40], .rti), ([0x41, 0x34], .eorIndX 0x34), ([0x42], .jam42), ([0x43, 0x34], .sre43 0x34),
     ([0x44, 0x34], .nop44 0x34), ([0x45, 0x34], .eorZp 0x34), ([0x46, 0x34], .lsrZp 0x34),
     ([0x47, 0x34], .sre47 0x34), ([0x48], .pha), ([0x49, 0x34], .eorImm 0x34), ([0x4A], .lsrAcc),
     ([0x4B, 0x34], .alr4B 0x34), ([0x4C, 0x34, 0x12], .jmpAbs 0x1234), ([0x4D, 0x34, 0x12], .eorAbs 0x1234),
     ([0x4E, 0x34, 0x12], .lsrAbs 0x1234), ([0x4F, 0x34, 0x12], .sre4F 0x1234)] = true := by decide

theorem test_decode_row5 : decodesTo
    [([0x50, 0x34], .bvc 0x34), ([0x51, 0x34], .eorIndY 0x34), ([0x52], .jam52), ([0x53, 0x34], .sre53 0x34),
     ([0x54, 0x34], .nop54 0x34), ([0x55, 0x34], .eorZpX 0x34), ([0x56, 0x34], .lsrZpX 0x34),
     ([0x57, 0x34], .sre57 0x34), ([0x58], .cli), ([0x59, 0x34, 0x12], .eorAbsY 0x1234), ([0x5A], .nop5A),
     ([0x5B, 0x34, 0x12], .sre5B 0x1234), ([0x5C, 0x34, 0x12], .nop5C 0x1234),
     ([0x5D, 0x34, 0x12], .eorAbsX 0x1234), ([0x5E, 0x34, 0x12], .lsrAbsX 0x1234),
     ([0x5F, 0x34, 0x12], .sre5F 0x1234)] = true := by decide

theorem test_decode_row6 : decodesTo
    [([0x60], .rts), ([0x61, 0x34], .adcIndX 0x34), ([0x62], .jam62), ([0x63, 0x34], .rra63 0x34),
     ([0x64, 0x34], .nop64 0x34), ([0x65, 0x34], .adcZp 0x34), ([0x66, 0x34], .rorZp 0x34),
     ([0x67, 0x34], .rra67 0x34), ([0x68], .pla), ([0x69, 0x34], .adcImm 0x34), ([0x6A], .rorAcc),
     ([0x6B, 0x34], .arr6B 0x34), ([0x6C, 0x34, 0x12], .jmpInd 0x1234), ([0x6D, 0x34, 0x12], .adcAbs 0x1234),
     ([0x6E, 0x34, 0x12], .rorAbs 0x1234), ([0x6F, 0x34, 0x12], .rra6F 0x1234)] = true := by decide

theorem test_decode_row7 : decodesTo
    [([0x70, 0x34], .bvs 0x34), ([0x71, 0x34], .adcIndY 0x34), ([0x72], .jam72), ([0x73, 0x34], .rra73 0x34),
     ([0x74, 0x34], .nop74 0x34), ([0x75, 0x34], .adcZpX 0x34), ([0x76, 0x34], .rorZpX 0x34),
     ([0x77, 0x34], .rra77 0x34), ([0x78], .sei), ([0x79, 0x34, 0x12], .adcAbsY 0x1234), ([0x7A], .nop7A),
     ([0x7B, 0x34, 0x12], .rra7B 0x1234), ([0x7C, 0x34, 0x12], .nop7C 0x1234),
     ([0x7D, 0x34, 0x12], .adcAbsX 0x1234), ([0x7E, 0x34, 0x12], .rorAbsX 0x1234),
     ([0x7F, 0x34, 0x12], .rra7F 0x1234)] = true := by decide

theorem test_decode_row8 : decodesTo
    [([0x80, 0x34], .nop80 0x34), ([0x81, 0x34], .staIndX 0x34), ([0x82, 0x34], .nop82 0x34),
     ([0x83, 0x34], .sax83 0x34), ([0x84, 0x34], .styZp 0x34), ([0x85, 0x34], .staZp 0x34),
     ([0x86, 0x34], .stxZp 0x34), ([0x87, 0x34], .sax87 0x34), ([0x88], .dey), ([0x89, 0x34], .nop89 0x34),
     ([0x8A], .txa), ([0x8B, 0x34], .xaa8B 0x34), ([0x8C, 0x34, 0x12], .styAbs 0x1234),
     ([0x8D, 0x34, 0x12], .staAbs 0x1234), ([0x8E, 0x34, 0x12], .stxAbs 0x1234),
     ([0x8F, 0x34, 0x12], .sax8F 0x1234)] = true := by decide

theorem test_decode_row9 : decodesTo
    [([0x90, 0x34], .bcc 0x34), ([0x91, 0x34], .staIndY 0x34), ([0x92], .jam92), ([0x93, 0x34], .ahx93 0x34),
     ([0x94, 0x34], .styZpX 0x34), ([0x95, 0x34], .staZpX 0x34), ([0x96, 0x34], .stxZpY 0x34),
     ([0x97, 0x34], .sax97 0x34), ([0x98], .tya), ([0x99, 0x34, 0x12], .staAbsY 0x1234), ([0x9A], .txs),
     ([0x9B, 0x34, 0x12], .tas9B 0x1234), ([0x9C, 0x34, 0x12], .shy9C 0x1234),
     ([0x9D, 0x34, 0x12], .staAbsX 0x1234), ([0x9E, 0x34, 0x12], .shx9E 0x1234),
     ([0x9F, 0x34, 0x12], .ahx9F 0x1234)] = true := by decide

theorem test_decode_rowA : decodesTo
    [([0xA0, 0x34], .ldyImm 0x34), ([0xA1, 0x34], .ldaIndX 0x34), ([0xA2, 0x34], .ldxImm 0x34),
     ([0xA3, 0x34], .laxA3 0x34), ([0xA4, 0x34], .ldyZp 0x34), ([0xA5, 0x34], .ldaZp 0x34),
     ([0xA6, 0x34], .ldxZp 0x34), ([0xA7, 0x34], .laxA7 0x34), ([0xA8], .tay), ([0xA9, 0x34], .ldaImm 0x34),
     ([0xAA], .tax), ([0xAB, 0x34], .laxAB 0x34), ([0xAC, 0x34, 0x12], .ldyAbs 0x1234),
     ([0xAD, 0x34, 0x12], .ldaAbs 0x1234), ([0xAE, 0x34, 0x12], .ldxAbs 0x1234),
     ([0xAF, 0x34, 0x12], .laxAF 0x1234)] = true := by decide

theorem test_decode_rowB : decodesTo
    [([0xB0, 0x34], .bcs 0x34), ([0xB1, 0x34], .ldaIndY 0x34), ([0xB2], .jamB2), ([0xB3, 0x34], .laxB3 0x34),
     ([0xB4, 0x34], .ldyZpX 0x34), ([0xB5, 0x34], .ldaZpX 0x34), ([0xB6, 0x34], .ldxZpY 0x34),
     ([0xB7, 0x34], .laxB7 0x34), ([0xB8], .clv), ([0xB9, 0x34, 0x12], .ldaAbsY 0x1234), ([0xBA], .tsx),
     ([0xBB, 0x34, 0x12], .lasBB 0x1234), ([0xBC, 0x34, 0x12], .ldyAbsX 0x1234),
     ([0xBD, 0x34, 0x12], .ldaAbsX 0x1234), ([0xBE, 0x34, 0x12], .ldxAbsY 0x1234),
     ([0xBF, 0x34, 0x12], .laxBF 0x1234)] = true := by decide

theorem test_decode_rowC : decodesTo
    [([0xC0, 0x34], .cpyImm 0x34), ([0xC1, 0x34], .cmpIndX 0x34), ([0xC2, 0x34], .nopC2 0x34),
     ([0xC3, 0x34], .dcpC3 0x34), ([0xC4, 0x34], .cpyZp 0x34), ([0xC5, 0x34], .cmpZp 0x34),
     ([0xC6, 0x34], .decZp 0x34), ([0xC7, 0x34], .dcpC7 0x34), ([0xC8], .iny), ([0xC9, 0x34], .cmpImm 0x34),
     ([0xCA], .dex), ([0xCB, 0x34], .axsCB 0x34), ([0xCC, 0x34, 0x12], .cpyAbs 0x1234),
     ([0xCD, 0x34, 0x12], .cmpAbs 0x1234), ([0xCE, 0x34, 0x12], .decAbs 0x1234),
     ([0xCF, 0x34, 0x12], .dcpCF 0x1234)] = true := by decide

theorem test_decode_rowD : decodesTo
    [([0xD0, 0x34], .bne 0x34), ([0xD1, 0x34], .cmpIndY 0x34), ([0xD2], .jamD2), ([0xD3, 0x34], .dcpD3 0x34),
     ([0xD4, 0x34], .nopD4 0x34), ([0xD5, 0x34], .cmpZpX 0x34), ([0xD6, 0x34], .decZpX 0x34),
     ([0xD7, 0x34], .dcpD7 0x34), ([0xD8], .cld), ([0xD9, 0x34, 0x12], .cmpAbsY 0x1234), ([0xDA], .nopDA),
     ([0xDB, 0x34, 0x12], .dcpDB 0x1234), ([0xDC, 0x34, 0x12], .nopDC 0x1234),
     ([0xDD, 0x34, 0x12], .cmpAbsX 0x1234), ([0xDE, 0x34, 0x12], .decAbsX 0x1234),
     ([0xDF, 0x34, 0x12], .dcpDF 0x1234)] = true := by decide

theorem test_decode_rowE : decodesTo
    [([0xE0, 0x34], .cpxImm 0x34), ([0xE1, 0x34], .sbcIndX 0x34), ([0xE2, 0x34], .nopE2 0x34),
     ([0xE3, 0x34], .iscE3 0x34), ([0xE4, 0x34], .cpxZp 0x34), ([0xE5, 0x34], .sbcZp 0x34),
     ([0xE6, 0x34], .incZp 0x34), ([0xE7, 0x34], .iscE7 0x34), ([0xE8], .inx), ([0xE9, 0x34], .sbcImm 0x34),
     ([0xEA], .nop), ([0xEB, 0x34], .sbcEB 0x34), ([0xEC, 0x34, 0x12], .cpxAbs 0x1234),
     ([0xED, 0x34, 0x12], .sbcAbs 0x1234), ([0xEE, 0x34, 0x12], .incAbs 0x1234),
     ([0xEF, 0x34, 0x12], .iscEF 0x1234)] = true := by decide

theorem test_decode_rowF : decodesTo
    [([0xF0, 0x34], .beq 0x34), ([0xF1, 0x34], .sbcIndY 0x34), ([0xF2], .jamF2), ([0xF3, 0x34], .iscF3 0x34),
     ([0xF4, 0x34], .nopF4 0x34), ([0xF5, 0x34], .sbcZpX 0x34), ([0xF6, 0x34], .incZpX 0x34),
     ([0xF7, 0x34], .iscF7 0x34), ([0xF8], .sed), ([0xF9, 0x34, 0x12], .sbcAbsY 0x1234), ([0xFA], .nopFA),
     ([0xFB, 0x34, 0x12], .iscFB 0x1234), ([0xFC, 0x34, 0x12], .nopFC 0x1234),
     ([0xFD, 0x34, 0x12], .sbcAbsX 0x1234), ([0xFE, 0x34, 0x12], .incAbsX 0x1234),
     ([0xFF, 0x34, 0x12], .iscFF 0x1234)] = true := by decide

/-- Neither an empty string nor one that ends inside the operand bytes is an instruction; both are refused by name. -/
theorem test_decode_refuses :
    decode [] = .error .empty ∧ decode [0x69] = .error (.truncated 0x69) ∧
      decode [0x6C, 0xFF] = .error (.truncated 0x6C) := by decide

/-- The table's numbering of bits: the opcode is the low byte, the operand bytes follow; absent bits read as 0. -/
theorem test_decodeTableWord :
    decodeTableWord 24 0x30FF6C = some (.jmpInd 0x30FF) ∧ decodeTableWord 8 0x30FF6C = some (.jmpInd 0x0000) ∧
      decodeTableWord 16 0x5069 = some (.adcImm 0x50) := by decide

theorem test_withFetchWord :
    (match step (State.reset.withFetchWord 16 0x42A9) with | .next t => some (t.a, t.pc) | _ => none) =
      some (0x42, 0x0002) := by decide

/-! ### Assembler syntax: the examples of R62 -/

theorem test_disassemble :
    [disassemble 0 .clc, disassemble 0 .aslAcc, disassemble 0 (.ldaImm 0x10), disassemble 0 (.ldaZp 0x10),
      disassemble 0 (.ldaZpX 0x10), disassemble 0 (.ldxZpY 0x10), disassemble 0 (.ldaAbs 0x1234),
      disassemble 0 (.ldaAbsX 0x1234), disassemble 0 (.ldaAbsY 0x1234), disassemble 0 (.jmpInd 0x1234),
      disassemble 0 (.ldaIndX 0x10), disassemble 0 (.ldaIndY 0x10), disassemble 0x060A (.bne 0xF9)] =
    ["CLC", "ASL A", "LDA #$10", "LDA $10", "LDA $10,X", "LDX $10,Y", "LDA $1234", "LDA $1234,X", "LDA $1234,Y",
      "JMP ($1234)", "LDA ($10,X)", "LDA ($10),Y", "BNE $0605"] := by decide

/-! ### One step: vectors of 95_test_vectors.md -/

theorem test_adcImm_V1 : (ran [0x69, 0x50] [] { start with a := 0x50 }).map
    (fun t => (([t.a] : List Byte), nvdizc t, t.pc)) =
    some ([0xA0], [1, 1, 0, 0, 0, 0], 0x0202) := by decide

theorem test_adcImm_V3 : (ran [0x69, 0x00] [] { start with a := 0xFF, flags := { start.flags with c := true } }).map
    (fun t => (([t.a] : List Byte), nvdizc t, t.pc)) =
    some ([0x00], [0, 0, 0, 0, 1, 1], 0x0202) := by decide

theorem test_sbcImm_V9 : (ran [0xE9, 0x01] [] { start with a := 0x00, flags := { start.flags with c := true } }).map
    (fun t => (([t.a] : List Byte), nvdizc t, t.pc)) =
    some ([0xFF], [1, 0, 0, 0, 0, 0], 0x0202) := by decide

theorem test_sbcImm_V12 : (ran [0xE9, 0xFF] [] { start with a := 0x7F, flags := { start.flags with c := true } }).map
    (fun t => (([t.a] : List Byte), nvdizc t, t.pc)) =
    some ([0x80], [1, 1, 0, 0, 0, 0], 0x0202) := by decide

theorem test_cmpImm_V15 : (ran [0xC9, 0x41] [] { start with a := 0x40, flags := { start.flags with c := true } }).map
    (fun t => (([t.a] : List Byte), nvdizc t, t.pc)) =
    some ([0x40], [1, 0, 0, 0, 0, 0], 0x0202) := by decide

theorem test_cmpImm_V16 : (ran [0xC9, 0x01] [] { start with a := 0x80, flags := { start.flags with v := true } }).map
    (fun t => (([t.a] : List Byte), nvdizc t, t.pc)) =
    some ([0x80], [0, 1, 0, 0, 0, 1], 0x0202) := by decide

theorem test_cpxImm_V18 : (ran [0xE0, 0x10] [] { start with x := 0x20 }).map
    (fun t => (([t.x] : List Byte), nvdizc t, t.pc)) =
    some ([0x20], [0, 0, 0, 0, 0, 1], 0x0202) := by decide

theorem test_cpyZp_V19 : (ran [0xC4, 0x44] [(0x0044, 0x01)] { start with y := 0x00 }).map
    (fun t => (([t.y] : List Byte), nvdizc t, t.pc)) =
    some ([0x00], [1, 0, 0, 0, 0, 0], 0x0202) := by decide

theorem test_cmpIndY_V20 :
    (ran [0xD1, 0x20] [(0x0020, 0xFF), (0x0021, 0x12), (0x1300, 0x77)] { start with a := 0x77, y := 0x01 }).map
    (fun t => (([t.a, t.y] : List Byte), nvdizc t, t.pc)) =
    some ([0x77, 0x01], [0, 0, 0, 0, 1, 1], 0x0202) := by decide

theorem test_oraImm_V22 : (ran [0x09, 0x80] [] { start with a := 0x01 }).map
    (fun t => (([t.a] : List Byte), nvdizc t, t.pc)) =
    some ([0x81], [1, 0, 0, 0, 0, 0], 0x0202) := by decide

theorem test_eorImm_V23 :
    (ran [0x49, 0xFF] [] { start with a := 0xFF, flags := { start.flags with c := true, v := true } }).map
    (fun t => (([t.a] : List Byte), nvdizc t, t.pc)) =
    some ([0x00], [0, 1, 0, 0, 1, 1], 0x0202) := by decide

theorem test_andZpX_V24 : (ran [0x35, 0xF0] [(0x0010, 0x81)] { start with a := 0xFF, x := 0x20 }).map
    (fun t => (([t.a, t.x] : List Byte), nvdizc t, t.pc)) =
    some ([0x81, 0x20], [1, 0, 0, 0, 0, 0], 0x0202) := by decide

theorem test_bitZp_V25 : (ran [0x24, 0x10] [(0x0010, 0xC0)] { start with a := 0x01 }).map
    (fun t => (([t.a] : List Byte), nvdizc t, t.pc)) =
    some ([0x01], [1, 1, 0, 0, 1, 0], 0x0202) := by decide

theorem test_bitAbs_V26 :
    (ran [0x2C, 0x00, 0x03] [(0x0300, 0x3F)]
      { start with a := 0xFF, flags := { start.flags with v := true, n := true } }).map
    (fun t => (([t.a] : List Byte), nvdizc t, t.pc)) =
    some ([0xFF], [0, 0, 0, 0, 0, 0], 0x0203) := by decide

theorem test_aslAcc_V28 : (ran [0x0A] [] { start with a := 0x40, flags := { start.flags with c := true } }).map
    (fun t => (([t.a] : List Byte), nvdizc t, t.pc)) =
    some ([0x80], [1, 0, 0, 0, 0, 0], 0x0201) := by decide

theorem test_lsrAcc_V29 : (ran [0x4A] [] { start with a := 0x01, flags := { start.flags with n := true } }).map
    (fun t => (([t.a] : List Byte), nvdizc t, t.pc)) =
    some ([0x00], [0, 0, 0, 0, 1, 1], 0x0201) := by decide

theorem test_rolAcc_V30 : (ran [0x2A] [] { start with a := 0x80, flags := { start.flags with c := true } }).map
    (fun t => (([t.a] : List Byte), nvdizc t, t.pc)) =
    some ([0x01], [0, 0, 0, 0, 0, 1], 0x0201) := by decide

theorem test_rorAcc_V32 : (ran [0x6A] [] { start with a := 0x01, flags := { start.flags with c := true } }).map
    (fun t => (([t.a] : List Byte), nvdizc t, t.pc)) =
    some ([0x80], [1, 0, 0, 0, 0, 1], 0x0201) := by decide

theorem test_aslZp_V34 : (ran [0x06, 0x10] [(0x0010, 0xC1)] { start with a := 0x55 }).map
    (fun t => (([t.a, cell 0x0010 t] : List Byte), nvdizc t, t.pc)) =
    some ([0x55, 0x82], [1, 0, 0, 0, 0, 1], 0x0202) := by decide

theorem test_lsrAbsX_V35 : (ran [0x5E, 0xFF, 0x02] [(0x0300, 0x02)] { start with x := 0x01 }).map
    (fun t => (([t.x, cell 0x0300 t] : List Byte), nvdizc t, t.pc)) =
    some ([0x01, 0x01], [0, 0, 0, 0, 0, 0], 0x0203) := by decide

theorem test_rolZp_V36 :
    (ran [0x26, 0x10] [(0x0010, 0x7F)] { start with flags := { start.flags with c := true } }).map
    (fun t => (([cell 0x0010 t] : List Byte), nvdizc t, t.pc)) =
    some ([0xFF], [1, 0, 0, 0, 0, 0], 0x0202) := by decide

theorem test_rorAbsX_V37 :
    (ran [0x7E, 0x00, 0x03] [(0x0305, 0x00)] { start with x := 0x05, flags := { start.flags with c := true } }).map
    (fun t => (([t.x, cell 0x0305 t] : List Byte), nvdizc t, t.pc)) =
    some ([0x05, 0x80], [1, 0, 0, 0, 0, 0], 0x0203) := by decide

theorem test_incZp_V38 :
    (ran [0xE6, 0x10] [(0x0010, 0xFF)] { start with flags := { start.flags with c := true } }).map
    (fun t => (([cell 0x0010 t] : List Byte), nvdizc t, t.pc)) =
    some ([0x00], [0, 0, 0, 0, 1, 1], 0x0202) := by decide

theorem test_decZp_V39 : (ran [0xC6, 0x10] [(0x0010, 0x00)] start).map
    (fun t => (([cell 0x0010 t] : List Byte), nvdizc t, t.pc)) =
    some ([0xFF], [1, 0, 0, 0, 0, 0], 0x0202) := by decide

theorem test_incAbsX_V40 : (ran [0xFE, 0x00, 0x03] [(0x0302, 0x7F)] { start with x := 0x02 }).map
    (fun t => (([t.x, cell 0x0302 t] : List Byte), nvdizc t, t.pc)) =
    some ([0x02, 0x80], [1, 0, 0, 0, 0, 0], 0x0203) := by decide

theorem test_inx_V41 : (ran [0xE8] [] { start with x := 0xFF, flags := { start.flags with c := true } }).map
    (fun t => (([t.x] : List Byte), nvdizc t, t.pc)) =
    some ([0x00], [0, 0, 0, 0, 1, 1], 0x0201) := by decide

theorem test_iny_V42 : (ran [0xC8] [] { start with y := 0x7F }).map
    (fun t => (([t.y] : List Byte), nvdizc t, t.pc)) =
    some ([0x80], [1, 0, 0, 0, 0, 0], 0x0201) := by decide

theorem test_dex_V43 : (ran [0xCA] [] { start with x := 0x00 }).map
    (fun t => (([t.x] : List Byte), nvdizc t, t.pc)) =
    some ([0xFF], [1, 0, 0, 0, 0, 0], 0x0201) := by decide

theorem test_dey_V44 : (ran [0x88] [] { start with y := 0x01 }).map
    (fun t => (([t.y] : List Byte), nvdizc t, t.pc)) =
    some ([0x00], [0, 0, 0, 0, 1, 0], 0x0201) := by decide

theorem test_tax_V45 : (ran [0xAA] [] { start with a := 0x80, x := 0x01 }).map
    (fun t => (([t.a, t.x] : List Byte), nvdizc t, t.pc)) =
    some ([0x80, 0x80], [1, 0, 0, 0, 0, 0], 0x0201) := by decide

theorem test_tay_V46 : (ran [0xA8] [] { start with a := 0x00, y := 0x55 }).map
    (fun t => (([t.a, t.y] : List Byte), nvdizc t, t.pc)) =
    some ([0x00, 0x00], [0, 0, 0, 0, 1, 0], 0x0201) := by decide

theorem test_txa_V47 :
    (ran [0x8A] [] { start with x := 0x7F, a := 0x00, flags := { start.flags with n := true } }).map
    (fun t => (([t.a, t.x] : List Byte), nvdizc t, t.pc)) =
    some ([0x7F, 0x7F], [0, 0, 0, 0, 0, 0], 0x0201) := by decide

theorem test_tya_V48 : (ran [0x98] [] { start with y := 0xFF, a := 0x00 }).map
    (fun t => (([t.a, t.y] : List Byte), nvdizc t, t.pc)) =
    some ([0xFF, 0xFF], [1, 0, 0, 0, 0, 0], 0x0201) := by decide

theorem test_tsx_V49 : (ran [0xBA] [] { start with x := 0x00 }).map
    (fun t => (([t.x, t.sp] : List Byte), nvdizc t, t.pc)) =
    some ([0xFD, 0xFD], [1, 0, 0, 0, 0, 0], 0x0201) := by decide

theorem test_txs_V50 : (ran [0x9A] [] { start with x := 0x00, flags := { start.flags with n := true } }).map
    (fun t => (([t.x, t.sp] : List Byte), nvdizc t, t.pc)) =
    some ([0x00, 0x00], [1, 0, 0, 0, 0, 0], 0x0201) := by decide

theorem test_ldaZpX_V53 : (ran [0xB5, 0xFF] [(0x0001, 0x42)] { start with x := 0x02 }).map
    (fun t => (([t.a, t.x] : List Byte), nvdizc t, t.pc)) =
    some ([0x42, 0x02], [0, 0, 0, 0, 0, 0], 0x0202) := by decide

theorem test_ldxZpY_V54 : (ran [0xB6, 0x80] [(0x0010, 0x99)] { start with y := 0x90 }).map
    (fun t => (([t.x, t.y] : List Byte), nvdizc t, t.pc)) =
    some ([0x99, 0x90], [1, 0, 0, 0, 0, 0], 0x0202) := by decide

theorem test_ldaAbsY_V56 : (ran [0xB9, 0xFF, 0xFF] [(0x0001, 0x66)] { start with y := 0x02 }).map
    (fun t => (([t.a, t.y] : List Byte), nvdizc t, t.pc)) =
    some ([0x66, 0x02], [0, 0, 0, 0, 0, 0], 0x0203) := by decide

theorem test_ldaIndX_V57 :
    (ran [0xA1, 0xFE] [(0x00FF, 0x34), (0x0000, 0x12), (0x1234, 0xAB)] { start with x := 0x01 }).map
    (fun t => (([t.a, t.x] : List Byte), nvdizc t, t.pc)) =
    some ([0xAB, 0x01], [1, 0, 0, 0, 0, 0], 0x0202) := by decide

theorem test_ldaIndY_V58 :
    (ran [0xB1, 0xFF] [(0x00FF, 0xF8), (0x0000, 0x02), (0x0308, 0xCD)] { start with y := 0x10 }).map
    (fun t => (([t.a, t.y] : List Byte), nvdizc t, t.pc)) =
    some ([0xCD, 0x10], [1, 0, 0, 0, 0, 0], 0x0202) := by decide

theorem test_ldyAbs_V59 : (ran [0xAC, 0x00, 0x03] [(0x0300, 0x00)] start).map
    (fun t => (([] : List Byte), nvdizc t, t.pc)) =
    some ([], [0, 0, 0, 0, 1, 0], 0x0203) := by decide

theorem test_staAbsX_V61 : (ran [0x9D, 0xFF, 0x02] [] { start with a := 0x5A, x := 0x01 }).map
    (fun t => (([t.a, t.x, cell 0x0300 t] : List Byte), nvdizc t, t.pc)) =
    some ([0x5A, 0x01, 0x5A], [0, 0, 0, 0, 0, 0], 0x0203) := by decide

theorem test_staIndY_V62 : (ran [0x91, 0x20] [(0x0020, 0x01), (0x0021, 0x03)] { start with a := 0xA5, y := 0xFF }).map
    (fun t => (([t.a, t.y, cell 0x0400 t] : List Byte), nvdizc t, t.pc)) =
    some ([0xA5, 0xFF, 0xA5], [0, 0, 0, 0, 0, 0], 0x0202) := by decide

theorem test_stxZpY_V63 : (ran [0x96, 0xFF] [] { start with x := 0x33, y := 0x01 }).map
    (fun t => (([t.x, t.y, cell 0x0000 t] : List Byte), nvdizc t, t.pc)) =
    some ([0x33, 0x01, 0x33], [0, 0, 0, 0, 0, 0], 0x0202) := by decide

theorem test_styAbs_V64 : (ran [0x8C, 0x34, 0x12] [] { start with y := 0x80 }).map
    (fun t => (([t.y, cell 0x1234 t] : List Byte), nvdizc t, t.pc)) =
    some ([0x80, 0x80], [0, 0, 0, 0, 0, 0], 0x0203) := by decide

theorem test_bcc_V65 : (ran [0x90, 0xFB] [] start).map
    (fun t => (([] : List Byte), nvdizc t, t.pc)) =
    some ([], [0, 0, 0, 0, 0, 0], 0x01FD) := by decide

theorem test_bcc_V66 : (ran [0x90, 0xFB] [] { start with flags := { start.flags with c := true } }).map
    (fun t => (([] : List Byte), nvdizc t, t.pc)) =
    some ([], [0, 0, 0, 0, 0, 1], 0x0202) := by decide

theorem test_bcs_V67 : (ran [0xB0, 0x10] [] { start with flags := { start.flags with c := true } }).map
    (fun t => (([] : List Byte), nvdizc t, t.pc)) =
    some ([], [0, 0, 0, 0, 0, 1], 0x0212) := by decide

theorem test_beq_V68 : (ran [0xF0, 0x7F] [] { start with flags := { start.flags with z := true } }).map
    (fun t => (([] : List Byte), nvdizc t, t.pc)) =
    some ([], [0, 0, 0, 0, 1, 0], 0x0281) := by decide

theorem test_bne_V69 : (ran [0xD0, 0x80] [] start).map
    (fun t => (([] : List Byte), nvdizc t, t.pc)) =
    some ([], [0, 0, 0, 0, 0, 0], 0x0182) := by decide

theorem test_bmi_V70 : (ran [0x30, 0xFB] [] { start with pc := 0x0301, flags := { start.flags with n := true } }).map
    (fun t => (([] : List Byte), nvdizc t, t.pc)) =
    some ([], [1, 0, 0, 0, 0, 0], 0x02FE) := by decide

theorem test_bpl_V71 : (ran [0x10, 0x02] [] { start with pc := 0x02FD }).map
    (fun t => (([] : List Byte), nvdizc t, t.pc)) =
    some ([], [0, 0, 0, 0, 0, 0], 0x0301) := by decide

theorem test_bvc_V72 : (ran [0x50, 0xFB] [] { start with pc := 0x0001 }).map
    (fun t => (([] : List Byte), nvdizc t, t.pc)) =
    some ([], [0, 0, 0, 0, 0, 0], 0xFFFE) := by decide

theorem test_bvs_V73 : (ran [0x70, 0x05] [] { start with pc := 0xFFFC, flags := { start.flags with v := true } }).map
    (fun t => (([] : List Byte), nvdizc t, t.pc)) =
    some ([], [0, 1, 0, 0, 0, 0], 0x0003) := by decide

theorem test_bvs_V74 : (ran [0x70, 0x05] [] { start with pc := 0xFFFE }).map
    (fun t => (([] : List Byte), nvdizc t, t.pc)) =
    some ([], [0, 0, 0, 0, 0, 0], 0x0000) := by decide

theorem test_jmpAbs_V75 : (ran [0x4C, 0x34, 0x12] [] start).map
    (fun t => (([] : List Byte), nvdizc t, t.pc)) =
    some ([], [0, 0, 0, 0, 0, 0], 0x1234) := by decide

theorem test_jmpInd_V76 : (ran [0x6C, 0xFF, 0x30] [(0x30FF, 0x80), (0x3000, 0x50), (0x3100, 0x40)] start).map
    (fun t => (([] : List Byte), nvdizc t, t.pc)) =
    some ([], [0, 0, 0, 0, 0, 0], 0x5080) := by decide

theorem test_jsrAbs_V78 : (ran [0x20, 0x34, 0x12] [] start).map
    (fun t => (([t.sp, cell 0x01FD t, cell 0x01FC t] : List Byte), nvdizc t, t.pc)) =
    some ([0xFB, 0x02, 0x02], [0, 0, 0, 0, 0, 0], 0x1234) := by decide

theorem test_jsrAbs_V79 : (ran [0x20, 0x00, 0x80] [] { start with pc := 0x12FE, sp := 0x00 }).map
    (fun t => (([t.sp, cell 0x0100 t, cell 0x01FF t] : List Byte), nvdizc t, t.pc)) =
    some ([0xFE, 0x13, 0x00], [0, 0, 0, 0, 0, 0], 0x8000) := by decide

theorem test_rts_V80 : (ran [0x60] [(0x01FC, 0x02), (0x01FD, 0x02)] { start with sp := 0xFB }).map
    (fun t => (([t.sp] : List Byte), nvdizc t, t.pc)) =
    some ([0xFD], [0, 0, 0, 0, 0, 0], 0x0203) := by decide

theorem test_rts_V81 : (ran [0x60] [(0x01FF, 0xFF), (0x0100, 0xFF)] { start with sp := 0xFE }).map
    (fun t => (([t.sp] : List Byte), nvdizc t, t.pc)) =
    some ([0x00], [0, 0, 0, 0, 0, 0], 0x0000) := by decide

theorem test_nop_V82 :
    (ran [0xEA] [] { start with a := 0x12, flags := { start.flags with c := true, n := true } }).map
    (fun t => (([t.a] : List Byte), nvdizc t, t.pc)) =
    some ([0x12], [1, 0, 0, 0, 0, 1], 0x0201) := by decide

theorem test_pha_V84 : (ran [0x48] [] { start with a := 0x99, sp := 0x00 }).map
    (fun t => (([t.a, t.sp, cell 0x0100 t] : List Byte), nvdizc t, t.pc)) =
    some ([0x99, 0xFF, 0x99], [0, 0, 0, 0, 0, 0], 0x0201) := by decide

theorem test_php_V85 : (ran [0x08] [] start).map
    (fun t => (([t.sp, cell 0x01FD t] : List Byte), nvdizc t, t.pc)) =
    some ([0xFC, 0x30], [0, 0, 0, 0, 0, 0], 0x0201) := by decide

theorem test_php_V86 :
    (ran [0x08] []
      { start with flags := { start.flags with c := true, z := true, i := true, d := true, v := true, n := true } }).map
    (fun t => (([t.sp, cell 0x01FD t] : List Byte), nvdizc t, t.pc)) =
    some ([0xFC, 0xFF], [1, 1, 1, 1, 1, 1], 0x0201) := by decide

theorem test_pla_V87 : (ran [0x68] [(0x01FD, 0x00)] { start with sp := 0xFC, a := 0x11 }).map
    (fun t => (([t.a, t.sp] : List Byte), nvdizc t, t.pc)) =
    some ([0x00, 0xFD], [0, 0, 0, 0, 1, 0], 0x0201) := by decide

theorem test_plp_V89 : (ran [0x28] [(0x01FD, 0xFF)] { start with sp := 0xFC }).map
    (fun t => (([t.sp] : List Byte), nvdizc t, t.pc)) =
    some ([0xFD], [1, 1, 1, 1, 1, 1], 0x0201) := by decide

theorem test_plp_V90 :
    (ran [0x28] [(0x01FD, 0x30)] { start with sp := 0xFC, flags := { start.flags with c := true, n := true } }).map
    (fun t => (([t.sp] : List Byte), nvdizc t, t.pc)) =
    some ([0xFD], [0, 0, 0, 0, 0, 0], 0x0201) := by decide

theorem test_clc_V91 : (ran [0x18] [] { start with flags := { start.flags with c := true } }).map
    (fun t => (([] : List Byte), nvdizc t, t.pc)) =
    some ([], [0, 0, 0, 0, 0, 0], 0x0201) := by decide

theorem test_sec_V92 : (ran [0x38] [] start).map
    (fun t => (([] : List Byte), nvdizc t, t.pc)) =
    some ([], [0, 0, 0, 0, 0, 1], 0x0201) := by decide

theorem test_cli_V93 : (ran [0x58] [] { start with flags := { start.flags with i := true } }).map
    (fun t => (([] : List Byte), nvdizc t, t.pc)) =
    some ([], [0, 0, 0, 0, 0, 0], 0x0201) := by decide

theorem test_sei_V94 : (ran [0x78] [] start).map
    (fun t => (([] : List Byte), nvdizc t, t.pc)) =
    some ([], [0, 0, 0, 1, 0, 0], 0x0201) := by decide

theorem test_cld_V95 : (ran [0xD8] [] { start with flags := { start.flags with d := true } }).map
    (fun t => (([] : List Byte), nvdizc t, t.pc)) =
    some ([], [0, 0, 0, 0, 0, 0], 0x0201) := by decide

theorem test_sed_V96 : (ran [0xF8] [] start).map
    (fun t => (([] : List Byte), nvdizc t, t.pc)) =
    some ([], [0, 0, 1, 0, 0, 0], 0x0201) := by decide

theorem test_clv_V97 : (ran [0xB8] [] { start with flags := { start.flags with v := true } }).map
    (fun t => (([] : List Byte), nvdizc t, t.pc)) =
    some ([], [0, 0, 0, 0, 0, 0], 0x0201) := by decide

theorem test_brk_V98 :
    (ran [0x00] [(0xFFFE, 0x00), (0xFFFF, 0x80)]
      { start with flags := { start.flags with c := true, n := true } }).map
    (fun t => (([t.sp, cell 0x01FD t, cell 0x01FC t, cell 0x01FB t] : List Byte), nvdizc t, t.pc)) =
    some ([0xFA, 0x02, 0x02, 0xB1], [1, 0, 0, 1, 0, 1], 0x8000) := by decide

theorem test_brk_V99 :
    (ran [0x00] [(0xFFFE, 0xCD), (0xFFFF, 0xAB)]
      { start with pc := 0x12FF, sp := 0x01, flags := { start.flags with i := true, d := true } }).map
    (fun t => (([t.sp, cell 0x0101 t, cell 0x0100 t, cell 0x01FF t] : List Byte), nvdizc t, t.pc)) =
    some ([0xFE, 0x13, 0x01, 0x3C], [0, 0, 1, 1, 0, 0], 0xABCD) := by decide

theorem test_rti_V100 :
    (ran [0x40] [(0x01FB, 0xB1), (0x01FC, 0x02), (0x01FD, 0x02)]
      { start with sp := 0xFA, flags := { start.flags with i := true } }).map
    (fun t => (([t.sp] : List Byte), nvdizc t, t.pc)) =
    some ([0xFD], [1, 0, 0, 0, 0, 1], 0x0202) := by decide

theorem test_rti_V101 : (ran [0x40] [(0x01FF, 0xCF), (0x0100, 0x34), (0x0101, 0x12)] { start with sp := 0xFE }).map
    (fun t => (([t.sp] : List Byte), nvdizc t, t.pc)) =
    some ([0x01], [1, 1, 1, 1, 1, 1], 0x1234) := by decide

theorem test_jam02_V103 : (ran [0x02] [] { start with a := 0x12 }).map
    (fun t => (([t.a] : List Byte), nvdizc t, t.pc, t.outcome)) =
    some ([0x12], [0, 0, 0, 0, 0, 0], 0x0201, .doneDiag 0x02 0x0200) := by decide

theorem test_slo07_V105 : (ran [0x07, 0x10] [(0x0010, 0x80)] { start with a := 0x01 }).map
    (fun t => (([t.a] : List Byte), nvdizc t, t.pc, t.outcome)) =
    some ([0x01], [0, 0, 0, 0, 0, 0], 0x0202, .doneDiag 0x07 0x0200) := by decide

theorem test_laxA3_V107 :
    (ran [0xA3, 0x10] [(0x0014, 0x00), (0x0015, 0x03), (0x0300, 0x77)] { start with x := 0x04 }).map
    (fun t => (([t.x] : List Byte), nvdizc t, t.pc, t.outcome)) =
    some ([0x04], [0, 0, 0, 0, 0, 0], 0x0202, .doneDiag 0xA3 0x0200) := by decide

theorem test_laxB3_V108 :
    (ran [0xB3, 0x10] [(0x0010, 0x00), (0x0011, 0x03), (0x0304, 0x77)] { start with y := 0x04 }).map
    (fun t => (([t.y] : List Byte), nvdizc t, t.pc, t.outcome)) =
    some ([0x04], [0, 0, 0, 0, 0, 0], 0x0202, .doneDiag 0xB3 0x0200) := by decide

theorem test_sbcEB_V109 : (ran [0xEB, 0x01] [] { start with a := 0x05, flags := { start.flags with c := true } }).map
    (fun t => (([t.a] : List Byte), nvdizc t, t.pc, t.outcome)) =
    some ([0x05], [0, 0, 0, 0, 0, 1], 0x0202, .doneDiag 0xEB 0x0200) := by decide

theorem test_iscFF_V111 : (ran [0xFF, 0xFF, 0xFF] [] { start with pc := 0xFFFD, x := 0x01 }).map
    (fun t => (([t.x] : List Byte), nvdizc t, t.pc, t.outcome)) =
    some ([0x01], [0, 0, 0, 0, 0, 0], 0x0000, .doneDiag 0xFF 0xFFFD) := by decide

/-! ### One step that ends in BusFault: vectors B of 95_test_vectors.md -/

theorem test_ldaAbs_B1 : (faulted 0x4018 [0xAD, 0x18, 0x40] [] { start with a := 0x11 }).map
    (fun t => (([t.a, t.sp] : List Byte), nvdizc t, t.pc, t.outcome)) =
    some ([0x11, 0xFD], [0, 0, 0, 0, 0, 0], 0x0200, .busFault 0x4018 .read) := by decide

theorem test_staAbs_B2 : (faulted 0x4018 [0x8D, 0x18, 0x40] [] { start with a := 0x11 }).map
    (fun t => (([t.a, t.sp] : List Byte), nvdizc t, t.pc, t.outcome)) =
    some ([0x11, 0xFD], [0, 0, 0, 0, 0, 0], 0x0200, .busFault 0x4018 .write) := by decide

theorem test_incAbs_B3 :
    (faulted 0x4018 [0xEE, 0x18, 0x40] [] { start with flags := { start.flags with c := true } }).map
    (fun t => (([t.a, t.sp] : List Byte), nvdizc t, t.pc, t.outcome)) =
    some ([0x00, 0xFD], [0, 0, 0, 0, 0, 1], 0x0200, .busFault 0x4018 .read) := by decide

theorem test_ldaImm_B4 : (faulted 0x4018 [0xA9, 0x01] [] { start with pc := 0x4017 }).map
    (fun t => (([t.a, t.sp] : List Byte), nvdizc t, t.pc, t.outcome)) =
    some ([0x00, 0xFD], [0, 0, 0, 0, 0, 0], 0x4017, .busFault 0x4018 .read) := by decide

theorem test_nop_B5 : (faulted 0x4018 [0xEA] [] { start with pc := 0x4018 }).map
    (fun t => (([t.a, t.sp] : List Byte), nvdizc t, t.pc, t.outcome)) =
    some ([0x00, 0xFD], [0, 0, 0, 0, 0, 0], 0x4018, .busFault 0x4018 .read) := by decide

theorem test_jmpInd_B6 : (faulted 0x4018 [0x6C, 0x17, 0x40] [] start).map
    (fun t => (([t.a, t.sp] : List Byte), nvdizc t, t.pc, t.outcome)) =
    some ([0x00, 0xFD], [0, 0, 0, 0, 0, 0], 0x0200, .busFault 0x4018 .read) := by decide

theorem test_jsrAbs_B8 : (faulted 0x01FC [0x20, 0x34, 0x12] [] start).map
    (fun t => (([t.a, t.sp, cell 0x01FD t] : List Byte), nvdizc t, t.pc, t.outcome)) =
    some ([0x00, 0xFC, 0x02], [0, 0, 0, 0, 0, 0], 0x0200, .busFault 0x01FC .write) := by decide

theorem test_brk_B9 : (faulted 0xFFFF [0x00] [] start).map
    (fun t => (([t.a, t.sp, cell 0x01FD t, cell 0x01FC t, cell 0x01FB t] : List Byte), nvdizc t, t.pc, t.outcome)) =
    some ([0x00, 0xFA, 0x02, 0x02, 0x30], [0, 0, 0, 1, 0, 0], 0x0200, .busFault 0xFFFF .read) := by decide

theorem test_rti_B10 : (faulted 0x01FD [0x40] [(0x01FB, 0xFF)] { start with sp := 0xFA }).map
    (fun t => (([t.a, t.sp] : List Byte), nvdizc t, t.pc, t.outcome)) =
    some ([0x00, 0xFD], [1, 1, 1, 1, 1, 1], 0x0200, .busFault 0x01FD .read) := by decide

theorem test_laxA3_B12 : (faulted 0x0011 [0xA3, 0x10] [] { start with x := 0x00 }).map
    (fun t => (([t.a, t.sp] : List Byte), nvdizc t, t.pc, t.outcome)) =
    some ([0x00, 0xFD], [0, 0, 0, 0, 0, 0], 0x0200, .busFault 0x0011 .read) := by decide

/-! ### Bus order and reset -/

/-- A read-modify-write reads and writes its cell once (vector V34). -/
theorem test_aslZp_bus : (ran [0x06, 0x10] [(0x0010, 0xC1)] start).map (·.trace) =
    some [.read 0x0200 0x06, .read 0x0201 0x10, .read 0x0010 0xC1, .write 0x0010 0x82] := by decide

/-- A store does not read its destination (vector V62). -/
theorem test_staIndY_bus :
    (ran [0x91, 0x20] [(0x0020, 0x01), (0x0021, 0x03)] { start with a := 0xA5, y := 0xFF }).map (·.trace) =
    some [.read 0x0200 0x91, .read 0x0201 0x20, .read 0x0020 0x01, .read 0x0021 0x03, .write 0x0400 0xA5] := by decide

/-- `State.reset` is what the reset input leaves of a machine whose memory lists nothing (R190). -/
theorem test_reset : (match resetInput { State.reset with a := 0x55, pc := 0x1234, trace := [] } with
    | .ok t => some t
    | .error _ => none) = some State.reset := by decide

/-- Reset reads the vector, low byte first, and shows P as 0x24. -/
theorem test_reset_vector :
    (match resetInput (pokes [(0xFFFC, 0x34), (0xFFFD, 0x12)] start) with
      | .ok t => some (t.pc, t.sp, inspectP t)
      | .error _ => none) = some (0x1234, 0xFD, 0x24) := by decide

/-- Nine ROL A, or nine ROR A, restore A and Carry (R106, R107); one step of each is checked above. -/
theorem test_nine_rotates : ∀ c : Bool,
    ((List.range 9).foldl (fun p _ => (rolValue p.1 p.2, p.1.getLsbD 7)) ((0xA6 : Byte), c) = (0xA6, c)) ∧
    ((List.range 9).foldl (fun p _ => (rorValue p.1 p.2, p.1.getLsbD 0)) ((0xA6 : Byte), c) = (0xA6, c)) := by decide

/-! ### Witnesses: a state and operands that meet the hypotheses of each obligation -/

/-- The outcome is a next state with the property. -/
def nextSat (p : State → Bool) : Host.Outcome State Fault Refusal → Bool
  | .next t => p t
  | _ => false

/-- The outcome is a fault with the property. -/
def faultSat (p : Fault → Bool) : Host.Outcome State Fault Refusal → Bool
  | .fault f => p f
  | _ => false

/-- The computation completes with the property. -/
def okSat {α : Type} (p : α → Bool) : Except Fault α → Bool
  | .ok b => p b
  | .error _ => false

/-- The computation faults with the property. -/
def errSat {α : Type} (p : Fault → Bool) : Except Fault α → Bool
  | .ok _ => false
  | .error f => p f

theorem of_nextSat {p : State → Bool} {o : Host.Outcome State Fault Refusal} (h : nextSat p o = true) :
    ∃ t, o = .next t ∧ p t = true := by
  cases o <;> simp_all [nextSat]

theorem of_faultSat {p : Fault → Bool} {o : Host.Outcome State Fault Refusal} (h : faultSat p o = true) :
    ∃ f, o = .fault f ∧ p f = true := by
  cases o <;> simp_all [faultSat]

theorem of_okSat {α : Type} {p : α → Bool} {r : Except Fault α} (h : okSat p r = true) : ∃ b, r = .ok b ∧ p b = true := by
  cases r <;> simp_all [okSat]

theorem of_errSat {α : Type} {p : Fault → Bool} {r : Except Fault α} (h : errSat p r = true) :
    ∃ f, r = .error f ∧ p f = true := by
  cases r <;> simp_all [errSat]

/-- Any state or value. -/
def any {α : Type} : α → Bool := fun _ => true

/-- The default map, with RSV1 handled and RSV2 not, as a platform might place them. -/
def boxed : Platform :=
  { Config.defaultPlatform with
    rsv1 := some { single := 0x4014, range := ⟨0x4016, 0x4017⟩, handled := true }
    rsv2 := some { range := ⟨0x4018, 0x401F⟩, handled := false } }

/-- `start` on that platform. -/
def onBoxed : State := { start with platform := boxed }

theorem witness_EncodeUndoesDecode :
    decode [0x69, 0x50, 0xEA] = .ok (.adcImm 0x50, [0xEA]) ∧ decode [0x00] = .ok (.brk, []) ∧
      decode [0xFF, 0xFF, 0xFF] = .ok (.iscFF 0xFFFF, []) := by decide

/-- At 0x0200, and across the top of the address space. -/
theorem witness_StepRunsDecodedInstruction :
    (∀ k (h : k < (encode (.adcImm 0x50)).length),
      inspectCell (0x0200 + BitVec.ofNat 16 k) (loaded [0x69, 0x50] [] start) = some (encode (.adcImm 0x50))[k]) ∧
    ∀ k (h : k < (encode (.jmpAbs 0x1234)).length),
      inspectCell (0xFFFF + BitVec.ofNat 16 k) (loaded [0x4C, 0x34, 0x12] [] { start with pc := 0xFFFF }) =
        some (encode (.jmpAbs 0x1234))[k] := by decide

theorem witness_StepHasOneOutcome :
    nextSat (fun t => t.outcome = .done) (step (loaded [0xEA] [] start)) = true ∧
    nextSat (fun t => t.outcome = .doneDiag 0x02 0x0200) (step (loaded [0x02] [] start)) = true ∧
    faultSat (fun f => f.left.outcome = .busFault 0x0200 .read) (step { start with platform := reservedAt 0x0200 }) =
      true := by decide

theorem witness_FaultLeavesStart :
    (∃ f, step { loaded [0x48] [] start with platform := reservedAt 0x01FD } = .fault f) ∧
    (∃ f, fetch { start with platform := reservedAt 0x0200 }.beginStep = .error f) ∧
    ∃ t, step (loaded [0x48] [] start) = .next t :=
  ⟨(of_faultSat (p := any) (by decide)).imp fun _ h => h.1, (of_errSat (p := any) (by decide)).imp fun _ h => h.1,
    (of_nextSat (p := any) (by decide)).imp fun _ h => h.1⟩

/-- In a completed step, and in one cut short by its second push. -/
theorem witness_CellsChangeOnlyByBusWrites :
    nextSat (fun t => t.mem.read 0x10 ≠ 0) (step (loaded [0x85, 0x10] [] { start with a := 0x42 })) = true ∧
    faultSat (fun f => f.left.mem.read 0x01FD ≠ 0)
      (step { loaded [0x20, 0x34, 0x12] [] start with platform := reservedAt 0x01FC }) = true := by decide

theorem witness_StepKeepsInvariant :
    (loaded [0x48] [] start).Inv ∧ { loaded [0x48] [] start with platform := reservedAt 0x01FD }.Inv ∧
    nextSat any (step (loaded [0x48] [] start)) = true ∧
    faultSat any (step { loaded [0x48] [] start with platform := reservedAt 0x01FD }) = true := by
  unfold State.Inv
  decide

/-- The addresses 0x0000 and 0x1800 share a cell of the default map; 0x0001 has another, 0x4014 a handler and 0x4018
nothing. -/
theorem witness_TranslationIsReadWriteSymmetric :
    translateAddr boxed 0x0000 = .cell 0 ∧ okSat any (memWrite 0x0000 0x42 onBoxed) = true ∧
      translateAddr boxed 0x1800 = .cell 0 ∧ translateAddr boxed 0x0001 ≠ .cell 0 ∧
      translateAddr boxed 0x4014 ≠ .cell 0 ∧ translateAddr boxed 0x4018 ≠ .cell 0 ∧
      okSat any (memRead 0x0001 onBoxed) = true := by decide

/-- The two ends of the window, and its first and last image; a write through the last image. -/
theorem witness_RamWindowMirrors :
    boxed.ram = some { base := 0, size := 0x0800 } ∧
    (∀ a ∈ [0x0000, 0x07FF, 0x0800, 0x1FFF], placeInRsv1 boxed a = none ∧ placeInRsv2 boxed a = none ∧
      0 ≤ a ∧ a < 0 + (1 + 3) * 0x0800) ∧
    (0x1FFF - 0) % 0x0800 = (0x07FF - 0) % 0x0800 ∧ okSat any (memWrite 0x1FFF 0x42 onBoxed) = true := by decide

theorem witness_DeviceWindowMirrors :
    boxed.dev = some { base := 0x2000, windowEnd := 0x3FFF } ∧
    (∀ a ∈ [0x2000, 0x2007, 0x3FF8, 0x3FFF], placeInRsv1 boxed a = none ∧ placeInRsv2 boxed a = none ∧
      placeInRam boxed a = none ∧ 0x2000 ≤ a ∧ a ≤ 0x3FFF) ∧
    (0x2007 - 0x2000) % 8 = (0x3FFF - 0x2000) % 8 ∧ okSat any (memWrite 0x2007 0x42 onBoxed) = true := by decide

theorem witness_DefaultMapPlaces :
    (∀ a ∈ [0x4000, 0x4013, 0xFFFF], placeInRsv1 boxed a = none ∧ placeInRsv2 boxed a = none ∧
      placeInRam boxed a = none ∧ placeInDev boxed a = none) ∧
    translateAddr Config.defaultPlatform 0x1FFF = .cell 0x07FF ∧
    translateAddr Config.defaultPlatform 0x2000 = .cell 0x2000 ∧
    translateAddr Config.defaultPlatform 0x3FFF = .cell 0x2007 ∧
    translateAddr Config.defaultPlatform 0x4000 = .cell 0x4000 ∧
    okSat any (memWrite 0x0000 0x42 State.reset) = true := by decide

/-- RSV1 at its single address and at both ends of its range; RSV2 at both ends; a handled and an unhandled window. -/
theorem witness_ReservedWindowsNeverAlias :
    translateAddr boxed 0x4014 = .device .rsv1 0 ∧ translateAddr boxed 0x4016 = .device .rsv1 2 ∧
    translateAddr boxed 0x4017 = .device .rsv1 3 ∧ translateAddr boxed 0x4015 = .cell 0x4015 ∧
    translateAddr boxed 0x4018 = .nowhere ∧ translateAddr boxed 0x401F = .nowhere ∧
    translateAddr boxed 0x4020 = .cell 0x4020 ∧ placeInRsv1 boxed 0x4018 = none ∧
    translateAddr (reservedAt 0x0010) 0x0010 = .nowhere := by decide

theorem witness_ReservedAccessReachesNoCell :
    translateAddr onBoxed.platform 0x4016 = .device .rsv1 2 ∧ translateAddr onBoxed.platform 0x4018 = .nowhere := by
  decide

theorem witness_FlatBusNeverFaults : start.platform = Config.flatBus := rfl

/-- The pointer at the end of its page, and one before it; a fault at each of the two reads. -/
theorem witness_IndirectStaysInThePointersPage :
    (Instr.jmpInd 0x30FF).operand = .memory (.indirect 0x30FF) ∧
    okSat (fun b => okSat any (memRead 0x3000 b.2)) (memRead 0x30FF start) = true ∧
    okSat (fun b => okSat any (memRead 0x30FF b.2)) (memRead 0x30FE start) = true ∧
    errSat any (memRead 0x4018 onBoxed) = true ∧
    okSat (fun b => errSat any (memRead 0x4000 b.2)) (memRead 0x40FF { start with platform := reservedAt 0x4000 }) =
      true := by decide

theorem witness_IndirectSecondAddress :
    word (hiByte 0x30FF) (loByte 0x30FF + 1) = 0x3000 ∧ word (hiByte 0x30FE) (loByte 0x30FE + 1) = 0x30FF ∧
    word (hiByte 0x40FF) (loByte 0x40FF + 1) = 0x4000 ∧ loByte 0x30FE ≠ 0xFF := by decide

/-- A pointer whose second byte wraps to 0x0000. -/
theorem witness_ZeroPageModesStayInPageZero :
    (Instr.ldxZpY 0xFF).mnemonic.documented = true ∧ (Instr.ldxZpY 0xFF).operand = .memory (.zeroPageY 0xFF) ∧
      (Instr.stxZpY 0x00).mnemonic.documented = true ∧ (Instr.stxZpY 0x00).operand = .memory (.zeroPageY 0x00) := by
  decide

theorem witness_ZeroPagePointersWrap :
    okSat (fun b => okSat any (memRead ((0xFE + 0x01 + 1 : Byte).setWidth 16) b.2))
      (memRead ((0xFE + 0x01 : Byte).setWidth 16) { start with x := 0x01 }) = true ∧
    okSat (fun b => okSat any (memRead ((0xFF + 1 : Byte).setWidth 16) b.2)) (memRead ((0xFF : Byte).setWidth 16) start) =
      true := by decide

theorem witness_ResolverOnlyReads :
    okSat (fun b => b.2.trace.length = 2) (resolve (.memory (.indirectY 0x10)) start) = true ∧
    okSat any (resolve .implicit start) = true ∧
    okSat (fun b => inspectCell b.1.addr start = some 0) (effAddr (.absoluteX 0x1234) start) = true := by decide

/-- With S = 0x00 and S = 0xFF, where the stack pointer wraps, and with the stack cell in a reserved window. -/
theorem witness_PushThenPullRestores :
    (∀ sp ∈ [(0x00 : Byte), 0xFF, 0xFD],
      okSat any (memWrite (word Config.stackPage sp) 0x42 { start with sp := sp }) = true ∧
      okSat any (memRead (word Config.stackPage (sp + 1)) { start with sp := sp + 1 }) = true ∧
      okSat any (push 0x42 { start with sp := sp }) = true) ∧
    errSat any (memWrite (word Config.stackPage 0xFD) 0x42 { start with platform := reservedAt 0x01FD }) = true ∧
    errSat any (memRead (word Config.stackPage 0xFE) { start with platform := reservedAt 0x01FE, sp := 0xFE }) = true ∧
    IsStorage start.platform (word Config.stackPage 0x00) := by
  refine ⟨by decide, by decide, by decide, _, rfl⟩

/-- An operand in storage can be read, one in an unhandled window cannot: what `ReadsThen` distinguishes. -/
def readsBothWays (good bad : Instr) (m : Mnemonic) : Bool :=
  good.mnemonic == m && bad.mnemonic == m && okSat any (readOperand good.operand onBoxed) &&
    errSat any (readOperand bad.operand onBoxed)

theorem witness_AdcAddsWithCarry : readsBothWays (.adcImm 0x50) (.adcAbs 0x4018) .adc = true := by decide
theorem witness_SbcAddsTheComplement : readsBothWays (.sbcIndY 0x10) (.sbcAbs 0x4018) .sbc = true := by decide
theorem witness_ComparesWriteOnlyFlags :
    readsBothWays (.cmpImm 0x40) (.cmpAbs 0x401F) .cmp = true ∧ readsBothWays (.cpxZp 0x40) (.cpxAbs 0x4018) .cpx = true ∧
      readsBothWays (.cpyZp 0x40) (.cpyAbs 0x4018) .cpy = true := by decide
theorem witness_LogicWritesAccumulator :
    readsBothWays (.andImm 0x0F) (.andAbs 0x4018) .and = true ∧ readsBothWays (.oraZpX 0xFF) (.oraAbs 0x4018) .ora = true ∧
      readsBothWays (.eorIndX 0xFF) (.eorAbs 0x4018) .eor = true := by decide
theorem witness_BitTestsOperand : readsBothWays (.bitZp 0x10) (.bitAbs 0x4018) .bit = true := by decide
theorem witness_LoadsWriteRegister :
    readsBothWays (.ldaImm 0x00) (.ldaAbs 0x4018) .lda = true ∧ readsBothWays (.ldxZpY 0xFF) (.ldxAbs 0x4018) .ldx = true ∧
      readsBothWays (.ldyZpX 0xFF) (.ldyAbs 0x4018) .ldy = true := by decide

theorem witness_SubtractionLaw : { start with flags.c := true }.flags.c = true ∧ start.flags.c = false := by decide

/-- On memory: the read and the write complete; the pointer is in storage; the operand is in an unhandled window. -/
def modifiesBothWays (good bad : Instr) (m : Mnemonic) : Bool :=
  good.mnemonic == m && bad.mnemonic == m && okSat any (readOperand good.operand onBoxed) &&
    nextSat any (exec good onBoxed) && errSat any (readOperand bad.operand onBoxed)

theorem witness_ShiftsMoveOneBit :
    modifiesBothWays (.aslZp 0x10) (.aslAbs 0x4018) .asl = true ∧ modifiesBothWays (.lsrZpX 0xFF) (.lsrAbs 0x4018) .lsr =
      true ∧ Instr.aslAcc.operand = .accumulator ∧ Instr.lsrAcc.operand = .accumulator := by decide
theorem witness_RotatesGoThroughCarry :
    modifiesBothWays (.rolZp 0x10) (.rolAbs 0x4018) .rol = true ∧ modifiesBothWays (.rorAbsX 0x1234) (.rorAbs 0x4018) .ror =
      true ∧ Instr.rolAcc.operand = .accumulator ∧ Instr.rorAcc.operand = .accumulator := by decide
theorem witness_MemoryStepsWrapAndKeepCarry :
    modifiesBothWays (.incZp 0x10) (.incAbs 0x4018) .inc = true ∧ modifiesBothWays (.decAbsX 0x1234) (.decAbs 0x4018) .dec =
      true := by decide

/-- A store that completes, one into an unhandled window, and one whose pointer is in one; the three registers. -/
theorem witness_StoresWriteOneByte :
    (Instr.staIndY 0x10).operand = .memory (.indirectY 0x10) ∧ (Instr.staIndY 0x10).mnemonic = .sta ∧
    (Instr.stxZpY 0xFF).mnemonic = .stx ∧ (Instr.styAbs 0x4018).mnemonic = .sty ∧
    okSat (fun b => translateAddr onBoxed.platform b.1.addr = .cell 0) (effAddr (.indirectY 0x10) onBoxed) = true ∧
    okSat (fun b => translateAddr onBoxed.platform b.1.addr = .nowhere) (effAddr (.absolute 0x4018) onBoxed) = true ∧
    errSat any (effAddr (.indirectY 0x10) { start with platform := reservedAt 0x0011 }) = true := by decide

theorem witness_JmpGoesToTheAddress :
    okSat any (effAddr (.indirect 0x30FF) start) = true ∧ errSat any (effAddr (.indirect 0x4018) onBoxed) = true := by
  decide

/-- On FLAT_BUS every access answers, at a storage cell of its own. -/
theorem flat_answers (addr : Addr) : Answers start.platform addr := fun h => nomatch h
theorem flat_storage (addr : Addr) : IsStorage start.platform addr := ⟨addr.toNat, rfl⟩

theorem witness_JsrPushesAndRtsPulls :
    Answers start.platform (word Config.stackPage 0x00) ∧ Answers start.platform (word Config.stackPage (0x00 - 1)) ∧
    Answers start.platform (word Config.stackPage (0xFF + 1)) ∧ Answers start.platform (word Config.stackPage (0xFF + 2)) :=
  ⟨flat_answers _, flat_answers _, flat_answers _, flat_answers _⟩

/-- With S = 0x00, where the second push wraps. -/
theorem witness_RtsUndoesJsr :
    IsStorage start.platform (word Config.stackPage 0x00) ∧ IsStorage start.platform (word Config.stackPage (0x00 - 1)) ∧
    translateAddr start.platform (word Config.stackPage 0x00) ≠ translateAddr start.platform (word Config.stackPage (0x00 - 1)) ∧
    ∃ t, exec (.jsrAbs 0x1234) { start with sp := 0x00 } = .next t :=
  ⟨flat_storage _, flat_storage _, by decide, (of_nextSat (p := any) (by decide)).imp fun _ h => h.1⟩

theorem witness_StatusByteKeepsSixFlags : (0x30 : Byte) &&& 0xCF = 0x00 &&& 0xCF := by decide

theorem witness_PushesStoreRegister :
    Answers start.platform (word Config.stackPage 0x00) ∧ IsStorage start.platform (word Config.stackPage 0x00) :=
  ⟨flat_answers _, flat_storage _⟩

theorem witness_PullsLoadRegister :
    Answers start.platform (word Config.stackPage (0xFF + 1)) ∧
      inspectCell (word Config.stackPage (0xFF + 1)) start = some 0 :=
  ⟨flat_answers _, by decide⟩

theorem witness_BrkEntersTrap :
    Answers start.platform (word Config.stackPage 0x01) ∧ Answers start.platform (word Config.stackPage (0x01 - 1)) ∧
    Answers start.platform (word Config.stackPage (0x01 - 2)) ∧ Answers start.platform Config.brkVector ∧
    Answers start.platform (Config.brkVector + 1) ∧ inspectCell Config.brkVector start = some 0 :=
  ⟨flat_answers _, flat_answers _, flat_answers _, flat_answers _, flat_answers _, by decide⟩

theorem witness_RtiReturnsFromTrap :
    Answers start.platform (word Config.stackPage (0xFE + 1)) ∧ Answers start.platform (word Config.stackPage (0xFE + 2)) ∧
    Answers start.platform (word Config.stackPage (0xFE + 3)) ∧
    inspectCell (word Config.stackPage (0xFE + 3)) start = some 0 :=
  ⟨flat_answers _, flat_answers _, flat_answers _, by decide⟩

/-- With S = 0x01, where the third push wraps. -/
theorem witness_RtiUndoesBrk :
    IsStorage start.platform (word Config.stackPage 0x01) ∧ IsStorage start.platform (word Config.stackPage (0x01 - 1)) ∧
    IsStorage start.platform (word Config.stackPage (0x01 - 2)) ∧
    translateAddr start.platform (word Config.stackPage 0x01) ≠ translateAddr start.platform (word Config.stackPage (0x01 - 1)) ∧
    translateAddr start.platform (word Config.stackPage 0x01) ≠ translateAddr start.platform (word Config.stackPage (0x01 - 2)) ∧
    translateAddr start.platform (word Config.stackPage (0x01 - 1)) ≠
      translateAddr start.platform (word Config.stackPage (0x01 - 2)) ∧
    ∃ t, exec .brk { start with sp := 0x01 } = .next t :=
  ⟨flat_storage _, flat_storage _, flat_storage _, by decide, by decide, by decide,
    (of_nextSat (p := any) (by decide)).imp fun _ h => h.1⟩

/-- The instruction faults from `start` with a reserved window at `n`, leaving S as given. -/
def faultsAt (n : Nat) (i : Instr) (sp : Byte) : Bool :=
  faultSat (fun f => f.left.sp = sp) (exec i { start with platform := reservedAt n })

/-- Every class of R172 and every transaction of it that can fault; and after the three pushes of a BRK whose vector read
faults, three different cells that hold the bytes pushed. -/
theorem witness_FaultsCommitWhatCameBefore :
    faultsAt 0x4018 (.ldaAbs 0x4018) 0xFD = true ∧ faultsAt 0x01FD .pha 0xFD = true ∧
    faultsAt 0x01FD (.jsrAbs 0x1234) 0xFD = true ∧ faultsAt 0x01FC (.jsrAbs 0x1234) 0xFC = true ∧
    faultsAt 0x01FD .brk 0xFD = true ∧ faultsAt 0x01FC .brk 0xFC = true ∧ faultsAt 0x01FB .brk 0xFB = true ∧
    faultsAt 0xFFFE .brk 0xFA = true ∧ faultsAt 0xFFFF .brk 0xFA = true ∧ faultsAt 0x01FE .pla 0xFE = true ∧
    faultsAt 0x01FE .plp 0xFE = true ∧ faultsAt 0x01FE .rts 0xFE = true ∧ faultsAt 0x01FF .rts 0xFF = true ∧
    faultsAt 0x01FE .rti 0xFE = true ∧ faultsAt 0x01FF .rti 0xFF = true ∧ faultsAt 0x0100 .rti 0x00 = true ∧
    (∀ n ∈ [0x01FD, 0x01FC, 0x01FB], translateAddr (reservedAt 0xFFFE) (BitVec.ofNat 16 n) = .cell n) ∧
    faultSat (fun f => f.left.mem = [(0x01FB, 0x30), (0x01FC, 0x02), (0x01FD, 0x02)])
      (exec .brk { start with platform := reservedAt 0xFFFE }) = true := by decide

theorem witness_UndocumentedAreDiagnosedNoOps :
    (Instr.laxA3 0x10).mnemonic.documented = false ∧ (Instr.slo0F 0x0300).mnemonic.documented = false ∧
    okSat any (resolve (Instr.laxA3 0x10).operand start) = true ∧
    errSat any (resolve (Instr.laxA3 0x10).operand { start with platform := reservedAt 0x0011 }) = true ∧
    (Instr.slo0F 0x0300).operand = .memory (.absolute 0x0300) := by decide

theorem witness_EveryInstructionCompletes :
    AllAnswer start.platform ∧ Instr.nop.mnemonic ∉ [Mnemonic.bcc, .bcs, .beq, .bne, .bmi, .bpl, .bvc, .bvs, .jmp, .jsr,
      .rts, .brk, .rti] :=
  ⟨flat_answers, by decide⟩

theorem witness_OnlyOverridesMovePc :
    nextSat any (exec (.bne 0x80) { start with flags.z := true }) = true ∧
    branchTaken .bne { start.flags with z := true } ≠ some true ∧
    (Instr.bne 0x80).mnemonic ∉ [Mnemonic.jmp, .jsr, .rts, .brk, .rti] := by decide

theorem witness_RegistersHaveFewWriters :
    nextSat any (exec .nop start) = true ∧
    Instr.nop.mnemonic ∉ [Mnemonic.adc, .sbc, .and, .ora, .eor, .lda, .pla, .txa, .tya] ∧
    Instr.nop.operand ≠ .accumulator ∧ Instr.nop.mnemonic ∉ [Mnemonic.ldx, .tax, .tsx, .inx, .dex] ∧
    Instr.nop.mnemonic ∉ [Mnemonic.ldy, .tay, .iny, .dey] ∧
    Instr.nop.mnemonic ∉ [Mnemonic.pha, .php, .pla, .plp, .jsr, .rts, .brk, .rti, .txs] := by decide

theorem witness_FlagsHaveFewWriters :
    nextSat any (exec .txs start) = true ∧
    Instr.txs.mnemonic ∉ [Mnemonic.adc, .sbc, .cmp, .cpx, .cpy, .asl, .lsr, .rol, .ror, .clc, .sec, .plp, .rti] ∧
    Instr.txs.mnemonic ∉ [Mnemonic.adc, .sbc, .and, .ora, .eor, .asl, .lsr, .rol, .ror, .inc, .dec, .inx, .iny, .dex,
      .dey, .tax, .tay, .txa, .tya, .tsx, .lda, .ldx, .ldy, .pla, .cmp, .cpx, .cpy, .bit, .plp, .rti] ∧
    Instr.txs.mnemonic ∉ [Mnemonic.sei, .cli, .brk, .plp, .rti] ∧ Instr.txs.mnemonic ∉ [Mnemonic.sed, .cld, .plp, .rti] ∧
    Instr.txs.mnemonic ∉ [Mnemonic.adc, .sbc, .bit, .clv, .plp, .rti] := by decide

/-- A form that stores nothing, a store with an address that leads elsewhere, and the three depths of pushes. -/
theorem witness_MemoryChangesOnlyWhereStored :
    nextSat any (exec (.ldaZp 0x10) start) = true ∧ nextSat any (exec .aslAcc start) = true ∧
    Instr.aslAcc.operand = .accumulator ∧
    nextSat any (exec (.incAbsX 0x1234) start) = true ∧
    okSat (fun b => translateAddr start.platform 0x1235 ≠ translateAddr start.platform b.1.addr)
      (effAddr (.absoluteX 0x1234) start) = true ∧
    nextSat any (exec .php start) = true ∧ nextSat any (exec (.jsrAbs 0x1234) start) = true ∧
    nextSat any (exec .brk start) = true ∧
    (∀ k < 3, translateAddr start.platform 0x0200 ≠
      translateAddr start.platform (word Config.stackPage (start.sp - BitVec.ofNat 8 k))) := by decide

theorem witness_DecimalFlagIsStorageOnly :
    (Instr.adcImm 0x09).mnemonic ∉ [Mnemonic.php, .brk, .plp, .rti, .sed, .cld] ∧ nextSat any (exec .plp start) = true ∧
    nextSat any (exec .rti start) = true ∧ nextSat any (exec .sed start) = true ∧ nextSat any (exec .cld start) = true ∧
    nextSat any (exec .php start) = true ∧ nextSat any (exec .brk start) = true ∧ okSat any (pull start) = true := by
  decide

theorem witness_InterruptDisableIsStorageOnly :
    (Instr.adcImm 0x09).mnemonic ∉ [Mnemonic.php, .brk, .plp, .rti, .sei, .cli] ∧ nextSat any (exec .plp start) = true ∧
    nextSat any (exec .rti start) = true ∧ nextSat any (exec .sei start) = true ∧
    nextSat any (exec .cli start) = true := by decide

theorem witness_ResetLoadsRegistersAndVector :
    Answers start.platform Config.resetVector ∧ Answers start.platform (Config.resetVector + 1) ∧
    IsStorage start.platform Config.resetVector ∧ IsStorage start.platform (Config.resetVector + 1) ∧
    inspectCell Config.resetVector start = some 0 ∧
    (∃ f, resetInput { start with platform := reservedAt 0xFFFD } = .error f) ∧
    State.reset.mem = [] ∧ State.reset.platform = Config.defaultPlatform :=
  ⟨flat_answers _, flat_answers _, flat_storage _, flat_storage _, by decide, (of_errSat (p := any) (by decide)).imp fun _ h => h.1, rfl, rfl⟩

theorem witness_CycleCountFormula :
    nextSat any (exec (.ldaAbsX 0x12FF) { start with x := 0x01 }) = true ∧
    nextSat any (exec (.bne 0x80) start) = true ∧ branchTaken .bne start.flags = some true := by decide

end Sys2Proof.Tests
end

section
/-! The invariant: every step keeps the canonical form of the storage cells (O10), and reset has it (O11). -/

namespace Sys2Proof.Machine

/-- What a completed step is: a completed fetch, then the instruction it read (40_addressing.md R70). -/
theorem step_eq_next {s t : State} :
    step s = .next t ↔ ∃ i u, fetch s.beginStep = .ok (i, u) ∧ exec i u = .next t := by
  unfold step
  cases h : fetch s.beginStep with
  | ok b => simp [Prod.ext_iff]
  | error f => simp

/-- What a faulting step is: the fault of its fetch, or of the instruction that was read (60_exceptions.md R172). -/
theorem step_eq_fault {s : State} {f : Fault} :
    step s = .fault f ↔
      fetch s.beginStep = .error f ∨ ∃ i u, fetch s.beginStep = .ok (i, u) ∧ exec i u = .fault f := by
  unfold step
  cases h : fetch s.beginStep with
  | ok b => simp [Prod.ext_iff]
  | error f => simp

/-- A completed step leaves a later state. -/
theorem step_next_later {s t : State} (h : step s = .next t) : Later s.beginStep t := by
  obtain ⟨i, u, hu, ht⟩ := step_eq_next.mp h
  exact .after (fetch_ok hu).2 (exec_next ht)

/-- A faulting step stops at one of its own accesses. -/
theorem step_fault_from {s : State} {f : Fault} (h : step s = .fault f) : FaultFrom s.beginStep f := by
  obtain h | ⟨i, u, hu, h⟩ := step_eq_fault.mp h
  · exact (fetch_error h).2
  · exact .after (fetch_ok hu).2 (exec_fault h)

/-- The state a fault leaves has the storage cells of the state that raised it. -/
theorem FaultFrom.wf {s : State} {f : Fault} (h : FaultFrom s f) (hs : Memory.wf s.mem) : Memory.wf f.left.mem := by
  obtain ⟨u, addr, hu, -, rfl | ⟨v, rfl⟩⟩ := h
  · exact hu.wf hs
  · exact hu.wf hs

/-- Settles O10: a completed step leaves a later state and a fault was raised in one, both with their cells in canonical
form. -/
theorem stepKeepsInvariant : Obligations.StepKeepsInvariant :=
  fun _ hs => ⟨fun _ ht => (step_next_later ht).wf hs, fun _ hf => (step_fault_from hf).wf hs⟩

/-- Settles O11: the memory of the reset state lists no cell. -/
theorem resetHasInvariant : Obligations.ResetHasInvariant := Memory.wf_nil

end Sys2Proof.Machine
end

section
/-! The status byte (10_state.md R17, R18): its bits, and the flags that survive a push and a pull (O43). -/

namespace Sys2Proof.Machine

namespace Flags

/-- The layout `N:V:1:b4:D:I:Z:C` (R17). -/
theorem pByte_bits (f : Flags) (b4 : Bool) :
    (f.pByte b4).getLsbD 0 = f.c ∧ (f.pByte b4).getLsbD 1 = f.z ∧ (f.pByte b4).getLsbD 2 = f.i ∧
      (f.pByte b4).getLsbD 3 = f.d ∧ (f.pByte b4).getLsbD 4 = b4 ∧ (f.pByte b4).getLsbD 5 = true ∧
      (f.pByte b4).getLsbD 6 = f.v ∧ (f.pByte b4).getLsbD 7 = f.n := by
  simp only [pByte, BitVec.getLsbD_append, BitVec.getLsbD_ofBool]
  simp

/-- The six flags survive a push and a pull (R18). -/
@[simp] theorem ofByte_pByte (f : Flags) (b4 : Bool) : ofByte (f.pByte b4) = f := by
  obtain ⟨hc, hz, hi, hd, -, -, hv, hn⟩ := f.pByte_bits b4
  simp only [ofByte, hc, hz, hi, hd, hv, hn]

/-- A bit inside a mask is the same in two bytes that agree under the mask. -/
theorem getLsbD_of_and_eq {v w mask : Byte} (h : v &&& mask = w &&& mask) {k : Nat} (hk : mask.getLsbD k = true) :
    v.getLsbD k = w.getLsbD k := by
  simpa [hk] using congrArg (·.getLsbD k) h

/-- `SetP` drops bits 4 and 5 of its byte (R18). -/
theorem ofByte_of_masked {v w : Byte} (h : v &&& 0xCF = w &&& 0xCF) : ofByte v = ofByte w := by
  have bit {k : Nat} (hk : (0xCF : Byte).getLsbD k = true) := getLsbD_of_and_eq h hk
  simp only [ofByte, bit (k := 0) rfl, bit (k := 1) rfl, bit (k := 2) rfl, bit (k := 3) rfl, bit (k := 6) rfl,
    bit (k := 7) rfl]

end Flags

/-- Settles O43, from the layout of the byte: the eight bits of a composed byte, and the six that a pull reads. -/
theorem statusByteKeepsSixFlags : Obligations.StatusByteKeepsSixFlags := by
  refine ⟨fun f b4 => ?_, fun v w h => Flags.ofByte_of_masked h⟩
  obtain ⟨hc, hz, hi, hd, hb, hu, hv, hn⟩ := f.pByte_bits b4
  exact ⟨f.ofByte_pByte b4, hb, hu, hc, hz, hi, hd, hv, hn⟩

end Sys2Proof.Machine
end

section
/-! Which instructions write which register and which flag (10_state.md R12 to R14, R16): one table by mnemonic, that
every completed instruction keeps to (O54, O55). -/

namespace Sys2Proof.Machine

section
variable (n : Nat) (s : State)

@[simp] theorem next_a : (next n s).a = s.a := rfl
@[simp] theorem next_x : (next n s).x = s.x := rfl
@[simp] theorem next_y : (next n s).y = s.y := rfl
@[simp] theorem next_sp : (next n s).sp = s.sp := rfl
@[simp] theorem next_flags : (next n s).flags = s.flags := rfl

end

/-- A part of the register file that the tables of R12 to R16 speak of: a register other than PC, or a flag. -/
inductive Part where
  | a | x | y | sp | c | z | n | i | d | v
  deriving DecidableEq

/-- The part holds the same value in two states. -/
@[simp] def Part.Same (s t : State) : Part → Prop
  | .a => t.a = s.a
  | .x => t.x = s.x
  | .y => t.y = s.y
  | .sp => t.sp = s.sp
  | .c => t.flags.c = s.flags.c
  | .z => t.flags.z = s.flags.z
  | .n => t.flags.n = s.flags.n
  | .i => t.flags.i = s.flags.i
  | .d => t.flags.d = s.flags.d
  | .v => t.flags.v = s.flags.v

/-- Every part but those of `l` is the same in two states. -/
def WritesOnly (l : List Part) (s t : State) : Prop := ∀ p ∉ l, p.Same s t

theorem Part.Same.trans {p : Part} {s t u : State} (h : p.Same s t) (k : p.Same t u) : p.Same s u := by
  cases p <;> exact Eq.trans k h

theorem WritesOnly.trans {l : List Part} {s t u : State} (h : WritesOnly l s t) (k : WritesOnly l t u) :
    WritesOnly l s u := fun p hp => (h p hp).trans (k p hp)

theorem WritesOnly.mono {l l' : List Part} {s t : State} (h : WritesOnly l s t) (hl : l ⊆ l') : WritesOnly l' s t :=
  fun p hp => h p fun hp' => hp (hl hp')

/-- A read writes no register and no flag. -/
theorem Observed.writesOnly {s t : State} (h : Observed s t) (l : List Part) : WritesOnly l s t := by
  intro p _
  cases p <;> simp [h.a, h.x, h.y, h.sp, h.flags]

/-- A write on the bus writes no register and no flag. -/
theorem memWrite_writesOnly {addr : Addr} {v : Byte} {s t : State} (h : memWrite addr v s = .ok t) (l : List Part) :
    WritesOnly l s t := by
  obtain ⟨ha, hx, hy, hs, hf⟩ := memWrite_registers h
  intro p _
  cases p <;> simp [ha, hx, hy, hs, hf]

theorem push_writesOnly {v : Byte} {s t : State} (h : push v s = .ok t) : WritesOnly [.sp] s t := by
  obtain ⟨ha, hx, hy, -, hf⟩ := push_registers h
  intro p hp
  cases p <;> simp [ha, hx, hy, hf] at hp ⊢

theorem pushWord_writesOnly {v : Addr} {s t : State} (h : pushWord v s = .ok t) : WritesOnly [.sp] s t := by
  obtain ⟨u, hu, h⟩ := bind_ok.mp h
  exact (push_writesOnly hu).trans (push_writesOnly h)

theorem setSp_writesOnly (v : Byte) (s : State) : WritesOnly [.sp] s (s.setSp v) := by
  intro p hp
  cases p <;> simp at hp ⊢

theorem setPc_writesOnly (pc : Addr) (s : State) (l : List Part) : WritesOnly l s (s.setPc pc) := by
  intro p _
  cases p <;> rfl

theorem pull_writesOnly {v : Byte} {s t : State} (h : pull s = .ok (v, t)) : WritesOnly [.sp] s t :=
  (setSp_writesOnly _ s).trans ((pull_observed h).writesOnly _)

theorem pullWord_writesOnly {v : Addr} {s t : State} (h : pullWord s = .ok (v, t)) : WritesOnly [.sp] s t := by
  obtain ⟨-, -, -, -, -, -, ho⟩ := pullWord_ok h
  exact (setSp_writesOnly _ s).trans (ho.writesOnly _)

theorem readVector_observed {vector v : Addr} {s t : State} (h : readVector vector s = .ok (v, t)) : Observed s t := by
  obtain ⟨-, -, -, -, -, -, ho⟩ := readVector_ok h
  exact ho

/-- A rule that reads its operand writes no more than what it does after the read. -/
theorem read_writesOnly {l : List Part} {o : Operand} {s t : State} {g : Byte × State → State}
    (hg : ∀ b, WritesOnly l b.2 (g b)) (h : (readOperand o s >>= fun b => .ok (g b)) = .ok t) : WritesOnly l s t := by
  obtain ⟨m, u, -, ho, rfl⟩ := read_ok h
  exact (ho.writesOnly l).trans (hg (m, u))

/-- The instructions that may write the part, by mnemonic (R12 to R14, R16); those of Accumulator mode write A as
well (R74). -/
def Part.writers : Part → List Mnemonic
  | .a => [.adc, .sbc, .and, .ora, .eor, .lda, .pla, .txa, .tya]
  | .x => [.ldx, .tax, .tsx, .inx, .dex]
  | .y => [.ldy, .tay, .iny, .dey]
  | .sp => [.pha, .php, .pla, .plp, .jsr, .rts, .brk, .rti, .txs]
  | .c => [.adc, .sbc, .cmp, .cpx, .cpy, .asl, .lsr, .rol, .ror, .clc, .sec, .plp, .rti]
  | .z | .n => [.adc, .sbc, .and, .ora, .eor, .asl, .lsr, .rol, .ror, .inc, .dec, .inx, .iny, .dex, .dey, .tax,
      .tay, .txa, .tya, .tsx, .lda, .ldx, .ldy, .pla, .cmp, .cpx, .cpy, .bit, .plp, .rti]
  | .i => [.sei, .cli, .brk, .plp, .rti]
  | .d => [.sed, .cld, .plp, .rti]
  | .v => [.adc, .sbc, .bit, .clv, .plp, .rti]

/-- The parts that the rule of the mnemonic may write, its location aside. -/
def mnemonicWrites (m : Mnemonic) : List Part :=
  [Part.a, .x, .y, .sp, .c, .z, .n, .i, .d, .v].filter fun p => m ∈ p.writers

@[simp] theorem mem_mnemonicWrites {p : Part} {m : Mnemonic} : p ∈ mnemonicWrites m ↔ m ∈ p.writers := by
  cases p <;> simp [mnemonicWrites]

/-- What an instruction may write: in Accumulator mode its location is A (R74). -/
def writes (i : Instr) : List Part :=
  if i.operand = .accumulator then .a :: mnemonicWrites i.mnemonic else mnemonicWrites i.mnemonic

theorem store_writesOnly_of_memory {m : MemOperand} {r : Resolved} {v : Byte} {s t u w : State}
    (hr : resolve (.memory m) s = .ok (r, t)) (h : store r.loc v u = .ok w) (l : List Part) : WritesOnly l u w := by
  obtain ⟨⟨e, t'⟩, -, hr⟩ := bind_ok.mp hr
  obtain ⟨rfl, -⟩ := Prod.mk.inj (Except.ok.inj hr)
  exact memWrite_writesOnly h l

theorem store_writesOnly_of_accumulator {r : Resolved} {v : Byte} {s t u w : State}
    (hr : resolve .accumulator s = .ok (r, t)) (h : store r.loc v u = .ok w) : WritesOnly [.a] u w := by
  obtain ⟨rfl, -⟩ := Prod.mk.inj (Except.ok.inj hr)
  cases h
  intro p hp
  cases p <;> simp at hp ⊢

/-- A read-modify-write writes its flags, and A in Accumulator mode. -/
theorem opModify_writesOnly {value : Byte → Bool → Byte} {flags : Byte → Byte → Flags → Flags} {l : List Part}
    {o : Operand} {s t : State} (hf : ∀ m r u, WritesOnly l u (next (operandSize o) (u.setFlags (flags m r u.flags))))
    (ho : o = .accumulator ∨ ∃ m, o = .memory m) (h : opModify value flags o s = .ok t) :
    WritesOnly (if o = .accumulator then .a :: l else l) s t := by
  obtain ⟨r, u, m, v, w, hr, -, hv, hw, rfl⟩ := opModify_ok h
  obtain rfl | ⟨m, rfl⟩ := ho
  · exact ((hv.writesOnly _).trans ((store_writesOnly_of_accumulator hr hw).mono (by simp))).trans
      ((hf _ _ w).mono (by simp))
  · exact ((hv.writesOnly _).trans (store_writesOnly_of_memory hr hw _)).trans (hf _ _ w)

/-- A store writes no register and no flag. -/
theorem opStore_writesOnly {reg : State → Byte} {m : MemOperand} {s t : State} (h : opStore reg m s = .ok t)
    (l : List Part) : WritesOnly l s t := by
  obtain ⟨e, u, w, -, hu, hw, rfl⟩ := opStore_ok h
  exact ((hu.writesOnly l).trans (memWrite_writesOnly hw l)).trans (setPc_writesOnly _ w l)

theorem opJmp_writesOnly {m : MemOperand} {s t : State} (h : opJmp m s = .ok t) (l : List Part) :
    WritesOnly l s t := by
  obtain ⟨⟨e, u⟩, hu, h⟩ := bind_ok.mp h
  cases h
  exact ((effAddr_observed hu).writesOnly l).trans (setPc_writesOnly _ u l)

theorem opJsr_writesOnly {m : MemOperand} {s t : State} (h : opJsr m s = .ok t) : WritesOnly [.sp] s t := by
  obtain ⟨⟨e, u⟩, hu, h⟩ := bind_ok.mp h
  obtain ⟨w, hw, h⟩ := bind_ok.mp h
  cases h
  exact (((effAddr_observed hu).writesOnly _).trans (pushWord_writesOnly hw)).trans (setPc_writesOnly _ w _)

theorem withAddress_writesOnly {o : Operand} {f : MemOperand → Except Fault State} {l : List Part} {s t : State}
    (hf : ∀ m, f m = .ok t → WritesOnly l s t) (h : withAddress o f s = .ok t) : WritesOnly l s t := by
  cases o with
  | memory m => exact hf m h
  | _ =>
    cases h
    exact (Observed.refl s).writesOnly l

theorem diagnosed_writesOnly {op : Byte} {o : Operand} {s t : State} (h : diagnosed op o s = .ok t) (l : List Part) :
    WritesOnly l s t := by
  obtain ⟨r, u, -, hu, rfl⟩ := diagnosed_ok h
  refine (hu.writesOnly l).trans fun p _ => ?_
  cases p <;> rfl

/-- Trap entry writes S and the flag I (60_exceptions.md R177). -/
theorem takeTrap_writesOnly {ret vector : Addr} {b4 : Bool} {s t : State} (h : takeTrap ret vector b4 s = .ok t) :
    WritesOnly [.sp, .i] s t := by
  obtain ⟨u, hu, h⟩ := bind_ok.mp h
  obtain ⟨w, hw, h⟩ := bind_ok.mp h
  obtain ⟨⟨v, x⟩, hx, h⟩ := bind_ok.mp h
  cases h
  have pushes : WritesOnly [.sp, .i] s w := ((pushWord_writesOnly hu).trans (push_writesOnly hw)).mono (by simp)
  have sets : WritesOnly [.sp, .i] w (w.setFlags { w.flags with i := true }) := by
    intro p hp
    cases p <;> simp at hp ⊢
  exact (pushes.trans sets).trans (((readVector_observed hx).writesOnly _).trans (setPc_writesOnly _ x _))

/-- PLP and RTI write S and all six flags (R148, R157). -/
theorem pullFlags_writesOnly {v : Byte} {s u : State} (h : pull s = .ok (v, u)) :
    WritesOnly (mnemonicWrites .plp) s (u.setFlags (Flags.ofByte v)) := by
  refine ((pull_writesOnly h).mono (by simp [Part.writers])).trans fun p hp => ?_
  cases p <;> simp [Part.writers] at hp ⊢

theorem returnFromTrap_writesOnly {s t : State} (h : returnFromTrap s = .ok t) :
    WritesOnly (mnemonicWrites .rti) s t := by
  obtain ⟨v, u, pc, w, hu, hw, rfl⟩ := returnFromTrap_ok h
  exact (pullFlags_writesOnly hu).trans
    (((pullWord_writesOnly hw).mono (by simp [Part.writers])).trans (setPc_writesOnly _ w _))

theorem opPlp_writesOnly {s t : State} (h : opPlp s = .ok t) : WritesOnly (mnemonicWrites .plp) s t := by
  obtain ⟨⟨v, u⟩, hu, h⟩ := bind_ok.mp h
  cases h
  exact (pullFlags_writesOnly hu).trans (setPc_writesOnly _ _ _)

theorem opPla_writesOnly {s t : State} (h : opPla s = .ok t) : WritesOnly (mnemonicWrites .pla) s t := by
  obtain ⟨⟨v, u⟩, hu, h⟩ := bind_ok.mp h
  cases h
  refine ((pull_writesOnly hu).mono (by simp [Part.writers])).trans fun p hp => ?_
  cases p <;> simp [Flags.setNZ, Part.writers] at hp ⊢

theorem opRts_writesOnly {s t : State} (h : opRts s = .ok t) : WritesOnly [.sp] s t := by
  obtain ⟨⟨v, u⟩, hu, h⟩ := bind_ok.mp h
  cases h
  exact (pullWord_writesOnly hu).trans (setPc_writesOnly _ _ _)

/-- PHA and PHP write S alone. -/
theorem push_next_writesOnly {v : Byte} {s t : State} (h : (push v s >>= fun u => .ok (next 0 u)) = .ok t) :
    WritesOnly [.sp] s t := by
  obtain ⟨u, hu, h⟩ := bind_ok.mp h
  cases h
  exact (push_writesOnly hu).trans (setPc_writesOnly _ u _)

theorem opBranch_writesOnly (taken : Bool) (off : Byte) (s : State) (l : List Part) :
    WritesOnly l s (opBranch taken off s) := by
  cases taken
  · exact setPc_writesOnly _ s l
  · exact setPc_writesOnly _ s l

theorem withOffset_writesOnly {o : Operand} {f : Byte → State} {s : State} {l : List Part}
    (hf : ∀ off, WritesOnly l s (f off)) : WritesOnly l s (withOffset o f s) := by
  cases o with
  | relative off => exact hf off
  | _ => exact (Observed.refl s).writesOnly l

/-- What a completed instruction writes, said once for all 256: nothing outside the table. -/
theorem perform_writesOnly {i : Instr} {s t : State} (h : perform i s = .ok t) : WritesOnly (writes i) s t := by
  by_cases hi : i.mnemonic ∈ [.asl, .lsr, .rol, .ror, .inc, .dec]
  · have ho := modify_operand i hi
    unfold perform at h
    unfold writes
    generalize i.mnemonic = m at h hi ⊢
    cases m with
    | asl | lsr | rol | ror | inc | dec =>
      exact opModify_writesOnly (fun m r u p hp => by
        cases p <;> simp [leftFlags, rightFlags, stepFlags, Flags.setNZ, Part.writers] at hp ⊢) ho h
    | _ => simp at hi
  · suffices WritesOnly (mnemonicWrites i.mnemonic) s t from this.mono (by unfold writes; split <;> simp)
    unfold perform at h
    generalize i.mnemonic = m at h hi ⊢
    cases m with
    | asl | lsr | rol | ror | inc | dec => simp at hi
    | adc | sbc | cmp | cpx | cpy | and | ora | eor | bit | lda | ldx | ldy =>
      exact read_writesOnly (fun b p hp => by
        cases p <;> simp [addFlags, compareFlags, bitFlags, Flags.setNZ, Part.writers] at hp ⊢) h
    | sta | stx | sty => exact withAddress_writesOnly (fun m hm => opStore_writesOnly hm _) h
    | jmp => exact withAddress_writesOnly (fun m hm => opJmp_writesOnly hm _) h
    | jsr => exact withAddress_writesOnly (fun _ => opJsr_writesOnly) h
    | rts => exact opRts_writesOnly h
    | pha | php => exact push_next_writesOnly h
    | pla => exact opPla_writesOnly h
    | plp => exact opPlp_writesOnly h
    | brk => exact takeTrap_writesOnly h
    | rti => exact returnFromTrap_writesOnly h
    | inx | iny | dex | dey | tax | tay | txa | tya | tsx | txs | nop | clc | sec | cli | sei | cld | sed | clv =>
      cases h
      intro p hp
      cases p <;> simp [opInx, opIny, opDex, opDey, opTax, opTay, opTxa, opTya, opTsx, opTxs, opNop,
        opFlag, withNZ, Flags.setNZ, Part.writers] at hp ⊢
    | bcc | bcs | beq | bne | bmi | bpl | bvc | bvs =>
      cases h
      exact withOffset_writesOnly fun off => opBranch_writesOnly _ off s _
    | jam | slo | nopUndoc | anc | rla | sre | alr | rra | arr | sax | xaa | ahx | tas | shy | shx | lax | las | dcp
    | axs | isc | sbcUndoc => exact diagnosed_writesOnly h _

theorem exec_writesOnly {i : Instr} {s t : State} (h : exec i s = .next t) : WritesOnly (writes i) s t :=
  perform_writesOnly (finish_eq_next.mp (exec_eq_perform i s ▸ h))

/-- A completed instruction keeps every part that its mnemonic does not write, A in Accumulator mode excepted. -/
theorem exec_keeps {i : Instr} {s t : State} (h : exec i s = .next t) {p : Part} (hp : i.mnemonic ∉ p.writers)
    (ha : p = .a → i.operand ≠ .accumulator) : p.Same s t := by
  refine exec_writesOnly h p fun hw => ?_
  unfold writes at hw
  split at hw
  · next ho =>
    obtain rfl | hw := List.mem_cons.mp hw
    · exact ha rfl ho
    · exact hp (mem_mnemonicWrites.mp hw)
  · exact hp (mem_mnemonicWrites.mp hw)

/-- Settles O54: the table of writers, read for the four registers. -/
theorem registersHaveFewWriters : Obligations.RegistersHaveFewWriters :=
  fun _ _ _ h => ⟨fun hm ho => exec_keeps h (p := .a) hm fun _ => ho, fun hm => exec_keeps h (p := .x) hm nofun,
    fun hm => exec_keeps h (p := .y) hm nofun, fun hm => exec_keeps h (p := .sp) hm nofun⟩

/-- Settles O55: the table of writers, read for the six flags. -/
theorem flagsHaveFewWriters : Obligations.FlagsHaveFewWriters :=
  fun _ _ _ h => ⟨fun hm => exec_keeps h (p := .c) hm nofun,
    fun hm => ⟨exec_keeps h (p := .z) hm nofun, exec_keeps h (p := .n) hm nofun⟩,
    fun hm => exec_keeps h (p := .i) hm nofun, fun hm => exec_keeps h (p := .d) hm nofun,
    fun hm => exec_keeps h (p := .v) hm nofun⟩

end Sys2Proof.Machine
end

section
/-! The stack operations: where they complete, and what trap entry, PHP, PLP and RTI leave in S, the flags and the
transactions (60_exceptions.md R177, 45_stack_flags_system.md R146, R148, R157). -/

namespace Sys2Proof.Machine

/-! ### Where they complete -/

theorem bind_completes {α β : Type} {x : Except Fault α} {f : α → Except Fault β} {P Q : Prop}
    (hx : (∃ a, x = .ok a) ↔ P) (hf : ∀ a, x = .ok a → ((∃ b, f a = .ok b) ↔ Q)) :
    (∃ b, (x >>= f) = .ok b) ↔ P ∧ Q := by
  rw [← hx]
  cases x with
  | ok a => simpa using hf a rfl
  | error e => simp

/-- Computing further from a result, without another access, completes as well. -/
theorem bind_ok_completes {α β : Type} {x : Except Fault α} {g : α → β} :
    (∃ b, (x >>= fun a => .ok (g a)) = .ok b) ↔ ∃ a, x = .ok a := by
  cases x with
  | ok a => simp
  | error e => simp

theorem memRead_completes {addr : Addr} {s : State} : (∃ b, memRead addr s = .ok b) ↔ Answers s.platform addr := by
  refine ⟨fun ⟨_, h⟩ => (memRead_ok h).1, fun h => ?_⟩
  obtain ⟨v, t, ht⟩ := memRead_answers h
  exact ⟨_, ht⟩

theorem memWrite_completes {addr : Addr} {v : Byte} {s : State} :
    (∃ t, memWrite addr v s = .ok t) ↔ Answers s.platform addr :=
  ⟨fun ⟨_, h⟩ => (memWrite_ok h).1, memWrite_answers⟩

theorem push_completes {v : Byte} {s : State} : (∃ t, push v s = .ok t) ↔ Answers s.platform (stackAddr s.sp) :=
  bind_ok_completes.trans memWrite_completes

theorem pushWord_completes {v : Addr} {s : State} :
    (∃ t, pushWord v s = .ok t) ↔ Answers s.platform (stackAddr s.sp) ∧ Answers s.platform (stackAddr (s.sp - 1)) := by
  refine bind_completes push_completes fun t ht => ?_
  have hsp : t.sp = s.sp - 1 := by
    obtain ⟨-, -, -, hsp, -⟩ := push_registers ht
    exact hsp
  have hp : t.platform = s.platform := ((push_inside _ s).1 t ht).platform
  rw [push_completes, hp, hsp]

theorem readVector_completes {vector : Addr} {s : State} :
    (∃ b, readVector vector s = .ok b) ↔ Answers s.platform vector ∧ Answers s.platform (vector + 1) := by
  refine bind_completes memRead_completes fun b hb => ?_
  rw [← (memRead_observed hb).platform]
  exact bind_ok_completes.trans memRead_completes

/-- What a completed push of a word leaves of S and the flags. -/
theorem pushWord_sp_flags {v : Addr} {s t : State} (h : pushWord v s = .ok t) :
    t.sp = s.sp - 2 ∧ t.flags = s.flags := by
  obtain ⟨u, w, hu, hw, rfl⟩ := pushWord_ok h
  obtain ⟨-, -, -, -, hfu⟩ := memWrite_registers hu
  obtain ⟨-, -, -, -, hfw⟩ := memWrite_registers hw
  exact ⟨rfl, hfw.trans hfu⟩

/-- Trap entry completes where the bus answers at the three stack addresses and at the vector. -/
theorem takeTrap_completes {ret vector : Addr} {b4 : Bool} {s : State} :
    (∃ t, takeTrap ret vector b4 s = .ok t) ↔
      (Answers s.platform (stackAddr s.sp) ∧ Answers s.platform (stackAddr (s.sp - 1))) ∧
        Answers s.platform (stackAddr (s.sp - 2)) ∧ Answers s.platform vector ∧ Answers s.platform (vector + 1) := by
  refine bind_completes pushWord_completes fun t ht => ?_
  have hp : t.platform = s.platform := ((pushWord_inside _ s).1 t ht).platform
  rw [← hp, ← (pushWord_sp_flags ht).1]
  refine bind_completes push_completes fun u hu => ?_
  have hq : u.platform = t.platform := ((push_inside _ t).1 u hu).platform
  rw [← hq]
  exact bind_ok_completes.trans readVector_completes

/-! ### What they leave -/

/-- What trap entry leaves of S and the flags (60_exceptions.md R177). -/
theorem takeTrap_sp_flags {ret vector : Addr} {b4 : Bool} {s t : State} (h : takeTrap ret vector b4 s = .ok t) :
    t.sp = s.sp - 3 ∧ t.flags = { s.flags with i := true } := by
  obtain ⟨u, w, x, v, y, -, -, rfl, hy, rfl⟩ := takeTrap_ok h
  have ho := readVector_observed hy
  exact ⟨ho.sp, ho.flags⟩

theorem memWrite_trace {addr : Addr} {v : Byte} {s t : State} (h : memWrite addr v s = .ok t) :
    t.trace = s.trace ++ [.write addr v] := by
  obtain ⟨-, ⟨n, -, rfl⟩ | ⟨w, off, -, rfl⟩⟩ := memWrite_ok h
  · rfl
  · rfl

/-- Trap entry pushes the status byte, I as it was, at the third stack address. -/
theorem takeTrap_pushes_status {ret vector : Addr} {b4 : Bool} {s t : State} (h : takeTrap ret vector b4 s = .ok t) :
    Transaction.write (stackAddr (s.sp - 2)) (s.flags.pByte b4) ∈ t.trace := by
  obtain ⟨u, w, x, v, y, -, hw, rfl, hy, rfl⟩ := takeTrap_ok h
  obtain ⟨l, hl⟩ : ∃ l, y.trace = w.trace ++ l := ((readVector_inside _ _).1 _ hy).trace
  simp [hl, memWrite_trace hw]

/-- What PHP leaves, and the status byte it pushes. -/
theorem opPhp_ok {s t : State} (h : opPhp s = .ok t) :
    t.sp = s.sp - 1 ∧ t.flags = s.flags ∧ Transaction.write (stackAddr s.sp) (s.flags.pByte true) ∈ t.trace := by
  obtain ⟨u, hu, h⟩ := bind_ok.mp h
  cases h
  obtain ⟨-, -, -, hsp, hf⟩ := push_registers hu
  obtain ⟨w, hw, rfl⟩ := push_ok hu
  refine ⟨hsp, hf, ?_⟩
  show _ ∈ w.trace
  simp [memWrite_trace hw]

theorem opPhp_completes {s : State} : (∃ t, opPhp s = .ok t) ↔ Answers s.platform (stackAddr s.sp) :=
  bind_ok_completes.trans push_completes

/-- PLP leaves the flags of the byte it pulled. -/
theorem opPlp_flags {s t u : State} {v : Byte} (hu : pull s = .ok (v, u)) (h : opPlp s = .ok t) :
    t.flags = Flags.ofByte v := by
  obtain ⟨⟨v', u'⟩, hu', h⟩ := bind_ok.mp h
  cases hu.symm.trans hu'
  cases h
  rfl

/-- RTI leaves the flags of the byte it pulled first. -/
theorem opRti_flags {s t u : State} {v : Byte} (hu : pull s = .ok (v, u)) (h : opRti s = .ok t) :
    t.flags = Flags.ofByte v := by
  obtain ⟨v', u', pc, w, hu', hw, rfl⟩ := returnFromTrap_ok h
  cases hu.symm.trans hu'
  obtain ⟨-, -, -, -, -, -, ho⟩ := pullWord_ok hw
  exact ho.flags

end Sys2Proof.Machine
end

section
/-! A change of flags beside the machine: what a run does from a state whose flags are mapped by a function, and that no
rule but the pushes of the status byte looks at I or D (10_state.md R19, 60_exceptions.md R176; O57, O58). -/

namespace Sys2Proof.Machine

/-! ### Runs from a state with other flags -/

/-- The state with `φ` applied to its flags. -/
def mapFlags (φ : Flags → Flags) (s : State) : State := s.setFlags (φ s.flags)

/-- A value and a state, with `φ` applied to the flags. -/
def mapSnd {α : Type} (φ : Flags → Flags) (b : α × State) : α × State := (b.1, mapFlags φ b.2)

/-- What a computation answers, with `h` applied to its result, and `φ` to the flags of the state that its fault
leaves. -/
def mapResult {α : Type} (φ : Flags → Flags) (h : α → α) : Except Fault α → Except Fault α
  | .ok b => .ok (h b)
  | .error (.busFault addr kind left) => .error (.busFault addr kind (mapFlags φ left))

theorem mapResult_bind {α β : Type} {φ : Flags → Flags} {h : α → α} {k : β → β} {x : Except Fault α}
    {c : α → Except Fault β} (hc : ∀ b, c (h b) = mapResult φ k (c b)) :
    (mapResult φ h x >>= c) = mapResult φ k (x >>= c) := by
  cases x with
  | ok b => exact hc b
  | error f => rfl

theorem onState_finish (φ : Flags → Flags) (r : Except Fault State) :
    onState (mapFlags φ) (finish r) = finish (mapResult φ (mapFlags φ) r) := by
  cases r with
  | ok t => rfl
  | error f => rfl

section
variable (φ : Flags → Flags)

theorem memRead_mapFlags (addr : Addr) (s : State) :
    memRead addr (mapFlags φ s) = mapResult φ (mapSnd φ) (memRead addr s) := by
  simp only [memRead, mapFlags, State.setFlags_platform]
  cases translateAddr s.platform addr <;> rfl

theorem memWrite_mapFlags (addr : Addr) (v : Byte) (s : State) :
    memWrite addr v (mapFlags φ s) = mapResult φ (mapFlags φ) (memWrite addr v s) := by
  simp only [memWrite, mapFlags, State.setFlags_platform]
  cases translateAddr s.platform addr <;> rfl

theorem push_mapFlags (v : Byte) (s : State) :
    push v (mapFlags φ s) = mapResult φ (mapFlags φ) (push v s) := by
  unfold push
  rw [memWrite_mapFlags φ]
  exact mapResult_bind fun t => rfl

theorem pull_mapFlags (s : State) : pull (mapFlags φ s) = mapResult φ (mapSnd φ) (pull s) :=
  memRead_mapFlags φ _ (s.setSp (s.sp + 1))

theorem pushWord_mapFlags (v : Addr) (s : State) :
    pushWord v (mapFlags φ s) = mapResult φ (mapFlags φ) (pushWord v s) := by
  unfold pushWord
  rw [push_mapFlags]
  exact mapResult_bind fun t => push_mapFlags φ _ t

theorem pullWord_mapFlags (s : State) :
    pullWord (mapFlags φ s) = mapResult φ (mapSnd φ) (pullWord s) := by
  unfold pullWord
  rw [pull_mapFlags]
  refine mapResult_bind fun b => ?_
  simp only [mapSnd, pull_mapFlags]
  exact mapResult_bind fun c => rfl

theorem readZeroPagePointer_mapFlags (z : Byte) (s : State) :
    readZeroPagePointer z (mapFlags φ s) = mapResult φ (mapSnd φ) (readZeroPagePointer z s) := by
  unfold readZeroPagePointer
  rw [memRead_mapFlags]
  refine mapResult_bind fun b => ?_
  simp only [mapSnd, memRead_mapFlags]
  exact mapResult_bind fun c => rfl

theorem effAddr_mapFlags (m : MemOperand) (s : State) :
    effAddr m (mapFlags φ s) = mapResult φ (mapSnd φ) (effAddr m s) := by
  cases m with
  | indirect p =>
    simp only [effAddr, memRead_mapFlags]
    refine mapResult_bind fun b => ?_
    simp only [mapSnd, memRead_mapFlags]
    exact mapResult_bind fun c => rfl
  | indirectX z =>
    simp only [effAddr, readZeroPagePointer_mapFlags]
    exact mapResult_bind fun b => rfl
  | indirectY z =>
    simp only [effAddr, readZeroPagePointer_mapFlags]
    exact mapResult_bind fun b => rfl
  | _ => rfl

theorem resolve_mapFlags (o : Operand) (s : State) :
    resolve o (mapFlags φ s) = mapResult φ (mapSnd φ) (resolve o s) := by
  cases o with
  | memory m =>
    simp only [resolve, effAddr_mapFlags]
    exact mapResult_bind fun b => rfl
  | _ => rfl

theorem load_mapFlags (l : Loc) (s : State) :
    load l (mapFlags φ s) = mapResult φ (mapSnd φ) (load l s) := by
  cases l with
  | mem addr => exact memRead_mapFlags φ addr s
  | _ => rfl

theorem store_mapFlags (l : Loc) (v : Byte) (s : State) :
    store l v (mapFlags φ s) = mapResult φ (mapFlags φ) (store l v s) := by
  cases l with
  | mem addr => exact memWrite_mapFlags φ addr v s
  | _ => rfl

theorem readOperand_mapFlags (o : Operand) (s : State) :
    readOperand o (mapFlags φ s) = mapResult φ (mapSnd φ) (readOperand o s) := by
  unfold readOperand
  rw [resolve_mapFlags]
  exact mapResult_bind fun b => load_mapFlags φ b.1.loc b.2

end

/-! ### The flags I and D -/

/-- The flags with I and D changed, each by a function of its own value. -/
def Flags.mapID (p q : Bool → Bool) (f : Flags) : Flags := { f with i := p f.i, d := q f.d }

/-- A rule that reads its operand, and then writes what I and D have no part in. -/
theorem read_mapFlags {φ : Flags → Flags} {o : Operand} {s : State} {g : Byte × State → State}
    (hg : ∀ b, g (mapSnd φ b) = mapFlags φ (g b)) :
    (readOperand o (mapFlags φ s) >>= fun b => .ok (g b)) =
      mapResult φ (mapFlags φ) (readOperand o s >>= fun b => .ok (g b)) := by
  rw [readOperand_mapFlags]
  exact mapResult_bind fun b => congrArg Except.ok (hg b)

theorem opModify_mapID (p q : Bool → Bool) {value : Byte → Bool → Byte} {flags : Byte → Byte → Flags → Flags}
    (hf : ∀ m r f, flags m r (Flags.mapID p q f) = Flags.mapID p q (flags m r f)) (o : Operand) (s : State) :
    opModify value flags o (mapFlags (Flags.mapID p q) s) =
      mapResult (Flags.mapID p q) (mapFlags (Flags.mapID p q)) (opModify value flags o s) := by
  unfold opModify
  rw [resolve_mapFlags]
  refine mapResult_bind fun b => ?_
  simp only [mapSnd, load_mapFlags]
  refine mapResult_bind fun c => ?_
  have hcarry : (mapFlags (Flags.mapID p q) c.2).flags.c = c.2.flags.c := rfl
  simp only [mapSnd, hcarry, store_mapFlags]
  refine mapResult_bind fun w => ?_
  simp only [mapFlags, State.setFlags_flags, hf]
  rfl

theorem opStore_mapFlags {φ : Flags → Flags} {reg : State → Byte} (hr : ∀ s, reg (mapFlags φ s) = reg s)
    (m : MemOperand) (s : State) :
    opStore reg m (mapFlags φ s) = mapResult φ (mapFlags φ) (opStore reg m s) := by
  unfold opStore
  rw [effAddr_mapFlags]
  refine mapResult_bind fun b => ?_
  simp only [mapSnd, hr, memWrite_mapFlags]
  exact mapResult_bind fun w => rfl

theorem opJmp_mapFlags (φ : Flags → Flags) (m : MemOperand) (s : State) :
    opJmp m (mapFlags φ s) = mapResult φ (mapFlags φ) (opJmp m s) := by
  unfold opJmp
  rw [effAddr_mapFlags]
  exact mapResult_bind fun b => rfl

theorem opJsr_mapFlags (φ : Flags → Flags) (m : MemOperand) (s : State) :
    opJsr m (mapFlags φ s) = mapResult φ (mapFlags φ) (opJsr m s) := by
  unfold opJsr
  rw [effAddr_mapFlags]
  refine mapResult_bind fun b => ?_
  simp only [mapSnd, pushWord_mapFlags]
  exact mapResult_bind fun w => rfl

theorem opRts_mapFlags (φ : Flags → Flags) (s : State) :
    opRts (mapFlags φ s) = mapResult φ (mapFlags φ) (opRts s) := by
  unfold opRts
  rw [pullWord_mapFlags]
  exact mapResult_bind fun b => rfl

theorem opPha_mapFlags (φ : Flags → Flags) (s : State) :
    opPha (mapFlags φ s) = mapResult φ (mapFlags φ) (opPha s) := by
  unfold opPha
  rw [push_mapFlags]
  exact mapResult_bind fun w => rfl

theorem opPla_mapID (p q : Bool → Bool) (s : State) :
    opPla (mapFlags (Flags.mapID p q) s) =
      mapResult (Flags.mapID p q) (mapFlags (Flags.mapID p q)) (opPla s) := by
  unfold opPla
  rw [pull_mapFlags]
  exact mapResult_bind fun b => rfl

theorem diagnosed_mapFlags (φ : Flags → Flags) (op : Byte) (o : Operand) (s : State) :
    diagnosed op o (mapFlags φ s) = mapResult φ (mapFlags φ) (diagnosed op o s) := by
  unfold diagnosed
  rw [resolve_mapFlags]
  exact mapResult_bind fun b => rfl

theorem withAddress_mapFlags {φ : Flags → Flags} {f f' : MemOperand → Except Fault State} {s : State}
    (hf : ∀ m, f' m = mapResult φ (mapFlags φ) (f m)) (o : Operand) :
    withAddress o f' (mapFlags φ s) = mapResult φ (mapFlags φ) (withAddress o f s) := by
  cases o with
  | memory m => exact hf m
  | _ => rfl

theorem withOffset_branch_mapFlags (φ : Flags → Flags) (o : Operand) (taken : Bool) (s : State) :
    withOffset o (opBranch taken · (mapFlags φ s)) (mapFlags φ s) =
      mapFlags φ (withOffset o (opBranch taken · s) s) := by
  cases o with
  | relative off => cases taken <;> rfl
  | _ => rfl

theorem leftFlags_mapID (p q : Bool → Bool) (m r : Byte) (f : Flags) :
    leftFlags m r (f.mapID p q) = (leftFlags m r f).mapID p q := rfl

theorem rightFlags_mapID (p q : Bool → Bool) (m r : Byte) (f : Flags) :
    rightFlags m r (f.mapID p q) = (rightFlags m r f).mapID p q := rfl

theorem stepFlags_mapID (p q : Bool → Bool) (m r : Byte) (f : Flags) :
    stepFlags m r (f.mapID p q) = (stepFlags m r f).mapID p q := rfl

/-- No rule looks at I or D but those that push or pull the status byte. The flag instructions of I and D are alike
where the function applied to their flag changes nothing. -/
theorem perform_mapID (p q : Bool → Bool) {i : Instr} (s : State) (hi : i.mnemonic ∉ [.php, .brk, .plp, .rti])
    (hp : i.mnemonic ∈ [.sei, .cli] → p = id) (hq : i.mnemonic ∈ [.sed, .cld] → q = id) :
    perform i (mapFlags (Flags.mapID p q) s) =
      mapResult (Flags.mapID p q) (mapFlags (Flags.mapID p q)) (perform i s) := by
  unfold perform
  generalize i.mnemonic = m at hi hp hq ⊢
  cases m with
  | php | brk | plp | rti => simp at hi
  | sei | cli =>
    obtain rfl := hp (by decide)
    rfl
  | sed | cld =>
    obtain rfl := hq (by decide)
    rfl
  | adc | sbc | cmp | cpx | cpy | and | ora | eor | bit | lda | ldx | ldy => exact read_mapFlags fun _ => rfl
  | asl | rol => exact opModify_mapID p q (leftFlags_mapID p q) _ s
  | lsr | ror => exact opModify_mapID p q (rightFlags_mapID p q) _ s
  | inc | dec => exact opModify_mapID p q (stepFlags_mapID p q) _ s
  | sta | stx | sty => exact withAddress_mapFlags (fun m => opStore_mapFlags (fun _ => rfl) m s) _
  | jmp => exact withAddress_mapFlags (fun m => opJmp_mapFlags _ m s) _
  | jsr => exact withAddress_mapFlags (fun m => opJsr_mapFlags _ m s) _
  | rts => exact opRts_mapFlags _ s
  | pha => exact opPha_mapFlags _ s
  | pla => exact opPla_mapID p q s
  | inx | iny | dex | dey | tax | tay | txa | tya | tsx | txs | nop | clc | sec | clv => rfl
  | bcc | bcs | beq | bne | bmi | bpl | bvc | bvs => exact congrArg Except.ok (withOffset_branch_mapFlags _ _ _ s)
  | jam | slo | nopUndoc | anc | rla | sre | alr | rra | arr | sax | xaa | ahx | tas | shy | shx | lax | las | dcp
  | axs | isc | sbcUndoc => exact diagnosed_mapFlags _ _ _ s

theorem withD_eq_mapFlags (b : Bool) : withD b = mapFlags (Flags.mapID id fun _ => b) := rfl

theorem withI_eq_mapFlags (b : Bool) : withI b = mapFlags (Flags.mapID (fun _ => b) id) := rfl

theorem exec_withD (b : Bool) {i : Instr} (s : State) (hi : i.mnemonic ∉ [.php, .brk, .plp, .rti, .sed, .cld]) :
    exec i (withD b s) = onState (withD b) (exec i s) := by
  simp only [exec_eq_perform, withD_eq_mapFlags, onState_finish]
  rw [perform_mapID id _ s (fun h => hi (List.mem_append_left [.sed, .cld] h)) (fun _ => rfl)
    (fun h => absurd (List.mem_append_right [.php, .brk, .plp, .rti] h) hi)]

theorem exec_withI (b : Bool) {i : Instr} (s : State) (hi : i.mnemonic ∉ [.php, .brk, .plp, .rti, .sei, .cli]) :
    exec i (withI b s) = onState (withI b) (exec i s) := by
  simp only [exec_eq_perform, withI_eq_mapFlags, onState_finish]
  rw [perform_mapID _ id s (fun h => hi (List.mem_append_left [.sei, .cli] h))
    (fun h => absurd (List.mem_append_right [.php, .brk, .plp, .rti] h) hi) (fun _ => rfl)]

/-! ### Instructions that overwrite the flags -/

theorem pull_setFlags (f : Flags) {s u : State} {v : Byte} (h : pull s = .ok (v, u)) :
    pull (s.setFlags f) = .ok (v, u.setFlags f) :=
  (pull_mapFlags (fun _ => f) s).trans (congrArg _ h)

theorem opPlp_setFlags (f : Flags) {s t : State} (h : opPlp s = .ok t) : opPlp (s.setFlags f) = .ok t := by
  obtain ⟨⟨v, u⟩, hu, h⟩ := bind_ok.mp h
  exact bind_ok.mpr ⟨_, pull_setFlags f hu, h⟩

theorem opRti_setFlags (f : Flags) {s t : State} (h : opRti s = .ok t) : opRti (s.setFlags f) = .ok t := by
  obtain ⟨⟨v, u⟩, hu, h⟩ := bind_ok.mp h
  exact bind_ok.mpr ⟨_, pull_setFlags f hu, h⟩

/-- An instruction that writes D leaves nothing of what D was. -/
theorem exec_withD_of_writes (b : Bool) {i : Instr} {s t : State} (hi : i.mnemonic ∈ [.plp, .rti, .sed, .cld])
    (h : exec i s = .next t) : exec i (withD b s) = .next t := by
  rw [exec_eq_perform, finish_eq_next] at h ⊢
  unfold perform at h ⊢
  generalize i.mnemonic = m at hi h ⊢
  cases m with
  | plp => exact opPlp_setFlags _ h
  | rti => exact opRti_setFlags _ h
  | sed | cld => exact h
  | _ => simp at hi

/-- An instruction that writes I leaves nothing of what I was. -/
theorem exec_withI_of_writes (b : Bool) {i : Instr} {s t : State} (hi : i.mnemonic ∈ [.plp, .rti, .sei, .cli])
    (h : exec i s = .next t) : exec i (withI b s) = .next t := by
  rw [exec_eq_perform, finish_eq_next] at h ⊢
  unfold perform at h ⊢
  generalize i.mnemonic = m at hi h ⊢
  cases m with
  | plp => exact opPlp_setFlags _ h
  | rti => exact opRti_setFlags _ h
  | sei | cli => exact h
  | _ => simp at hi

/-- Settles O58: I beside the run is only carried along, and an instruction that writes I overwrites it. -/
theorem interruptDisableIsStorageOnly : Obligations.InterruptDisableIsStorageOnly :=
  fun _ s b => ⟨exec_withI b s, fun hi _ h => exec_withI_of_writes b hi h⟩

/-! ### Instructions that push the status byte -/

theorem opPhp_withD (b : Bool) {s t : State} (h : opPhp s = .ok t) :
    ∃ u, opPhp (withD b s) = .ok u ∧ u.sp = t.sp ∧ u.flags = { t.flags with d := b } := by
  obtain ⟨u, hu⟩ := opPhp_completes (s := withD b s).mpr (opPhp_completes (s := s).mp ⟨t, h⟩)
  obtain ⟨hsp, hf, -⟩ := opPhp_ok h
  obtain ⟨hsp', hf', -⟩ := opPhp_ok hu
  exact ⟨u, hu, hsp'.trans hsp.symm, by rw [hf', hf]; rfl⟩

theorem opBrk_withD (b : Bool) {s t : State} (h : opBrk s = .ok t) :
    ∃ u, opBrk (withD b s) = .ok u ∧ u.sp = t.sp ∧ u.flags = { t.flags with d := b } := by
  obtain ⟨u, hu⟩ := takeTrap_completes (s := withD b s).mpr (takeTrap_completes (s := s).mp ⟨t, h⟩)
  obtain ⟨hsp, hf⟩ := takeTrap_sp_flags h
  obtain ⟨hsp', hf'⟩ := takeTrap_sp_flags hu
  exact ⟨u, hu, hsp'.trans hsp.symm, by rw [hf', hf]; rfl⟩

theorem exec_of_php {i : Instr} (hi : i.mnemonic = .php) (s : State) : exec i s = finish (opPhp s) := by
  simp [exec_eq_perform, perform, hi]

theorem exec_of_brk {i : Instr} (hi : i.mnemonic = .brk) (s : State) : exec i s = finish (opBrk s) := by
  simp [exec_eq_perform, perform, hi]

/-- PHP and BRK complete whatever D is, and D is all that differs in the flags they leave. -/
theorem exec_withD_of_pushes (b : Bool) {i : Instr} {s t : State} (hi : i.mnemonic ∈ [.php, .brk])
    (h : exec i s = .next t) :
    ∃ u, exec i (withD b s) = .next u ∧ u.sp = t.sp ∧ u.flags = { t.flags with d := b } := by
  obtain hi | hi : i.mnemonic = .php ∨ i.mnemonic = .brk := by simpa using hi
  · simp only [exec_of_php hi, finish_eq_next] at h ⊢
    exact opPhp_withD b h
  · simp only [exec_of_brk hi, finish_eq_next] at h ⊢
    exact opBrk_withD b h

/-- Settles O57: D beside the run is only carried along; the instructions that write D overwrite it; PHP and BRK push
it, and PLP and RTI take it from the byte they pull. -/
theorem decimalFlagIsStorageOnly : Obligations.DecimalFlagIsStorageOnly := by
  intro s b
  refine ⟨fun i hi => exec_withD b s hi, fun i t hi h => exec_withD_of_writes b hi h, fun i t hi h => ?pushes,
    by rw [Flags.ofByte_pByte], fun t h => ?sed, fun t h => ?cld, fun v u t hu h => ?pulls⟩
  case pushes =>
    refine ⟨exec_withD_of_pushes b hi h, fun hphp => ?_, fun hbrk => ?_⟩
    · obtain ⟨-, -, hw⟩ := opPhp_ok (finish_eq_next.mp (exec_of_php hphp s ▸ h))
      exact hw
    · exact takeTrap_pushes_status (finish_eq_next.mp (exec_of_brk hbrk s ▸ h))
  case sed =>
    cases h
    rfl
  case cld =>
    cases h
    rfl
  case pulls =>
    obtain h | h := h
    · rw [opPlp_flags hu (finish_eq_next.mp h)]
    · rw [opRti_flags hu (finish_eq_next.mp h)]

end Sys2Proof.Machine
end

section
/-! Where a raw address leads (20_memory.md R32 to R36), by the window that holds it: reserved windows, the RAM and device
windows, and the default map (O13 to O16). -/

namespace Sys2Proof.Machine

/-! ### The first window that holds an address decides -/

section
variable {p : Platform} {addr : Addr} {q : Place}

theorem translateAddr_of_rsv1 (h : placeInRsv1 p addr.toNat = some q) : translateAddr p addr = q := by
  simp [translateAddr, h]

theorem translateAddr_of_rsv2 (h₁ : placeInRsv1 p addr.toNat = none) (h : placeInRsv2 p addr.toNat = some q) :
    translateAddr p addr = q := by
  simp [translateAddr, h₁, h]

theorem translateAddr_of_ram (h₁ : placeInRsv1 p addr.toNat = none) (h₂ : placeInRsv2 p addr.toNat = none)
    (h : placeInRam p addr.toNat = some q) : translateAddr p addr = q := by
  simp [translateAddr, h₁, h₂, h]

theorem translateAddr_of_dev (h₁ : placeInRsv1 p addr.toNat = none) (h₂ : placeInRsv2 p addr.toNat = none)
    (h₃ : placeInRam p addr.toNat = none) (h : placeInDev p addr.toNat = some q) : translateAddr p addr = q := by
  simp [translateAddr, h₁, h₂, h₃, h]

theorem translateAddr_outside (h₁ : placeInRsv1 p addr.toNat = none) (h₂ : placeInRsv2 p addr.toNat = none)
    (h₃ : placeInRam p addr.toNat = none) (h : placeInDev p addr.toNat = none) :
    translateAddr p addr = .cell addr.toNat := by
  simp [translateAddr, h₁, h₂, h₃, h]

end

/-! ### What each window answers for an address inside it -/

section
variable {p : Platform} {a : Nat}

theorem placeInRsv1_inside {w : ReservedOne} (hw : p.rsv1 = some w)
    (ha : a = w.single ∨ (w.range.first ≤ a ∧ a ≤ w.range.last)) :
    placeInRsv1 p a = some (if w.handled then .device .rsv1 (a - rsv1Base w) else .nowhere) := by
  simp [placeInRsv1, hw, inRange, ha]

theorem placeInRsv2_inside {w : ReservedTwo} (hw : p.rsv2 = some w) (hf : w.range.first ≤ a) (hl : a ≤ w.range.last) :
    placeInRsv2 p a = some (if w.handled then .device .rsv2 (a - w.range.first) else .nowhere) := by
  simp [placeInRsv2, hw, inRange, hf, hl]

theorem placeInRam_inside {w : RamWindow} (hw : p.ram = some w) (hf : w.base ≤ a)
    (hl : a < w.base + (1 + 3) * w.size) : placeInRam p a = some (.cell (w.base + (a - w.base) % w.size)) := by
  simp [placeInRam, hw, Config.ramMirrors, hf, hl]

theorem placeInDev_inside {w : DevWindow} (hw : p.dev = some w) (hf : w.base ≤ a) (hl : a ≤ w.windowEnd) :
    placeInDev p a = some (.cell (w.base + (a - w.base) % 8)) := by
  simp [placeInDev, hw, Config.devSize, hf, hl]

end

/-- The RAM window maps modulo its size (R33). -/
theorem translateAddr_inside_ram {p : Platform} {addr : Addr} {w : RamWindow} (hw : p.ram = some w)
    (h₁ : placeInRsv1 p addr.toNat = none) (h₂ : placeInRsv2 p addr.toNat = none) (hf : w.base ≤ addr.toNat)
    (hl : addr.toNat < w.base + (1 + 3) * w.size) :
    translateAddr p addr = .cell (w.base + (addr.toNat - w.base) % w.size) :=
  translateAddr_of_ram h₁ h₂ (placeInRam_inside hw hf hl)

/-- The device-register window maps modulo 8 (R34). -/
theorem translateAddr_inside_dev {p : Platform} {addr : Addr} {w : DevWindow} (hw : p.dev = some w)
    (h₁ : placeInRsv1 p addr.toNat = none) (h₂ : placeInRsv2 p addr.toNat = none) (h₃ : placeInRam p addr.toNat = none)
    (hf : w.base ≤ addr.toNat) (hl : addr.toNat ≤ w.windowEnd) :
    translateAddr p addr = .cell (w.base + (addr.toNat - w.base) % 8) :=
  translateAddr_of_dev h₁ h₂ h₃ (placeInDev_inside hw hf hl)

/-- Settles O16: the reserved windows are asked first, RSV1 before RSV2. -/
theorem reservedWindowsNeverAlias : Obligations.ReservedWindowsNeverAlias :=
  fun _ _ => ⟨fun _ hw ha => translateAddr_of_rsv1 (placeInRsv1_inside hw ha),
    fun _ hw h₁ hf hl => translateAddr_of_rsv2 h₁ (placeInRsv2_inside hw hf hl)⟩

/-! ### What is written through one address of a cell is read through another -/

theorem memRead_of_same_cell {s t : State} {addr image : Addr} {n : Nat} {v : Byte}
    (ha : translateAddr s.platform addr = .cell n) (hi : translateAddr s.platform image = .cell n)
    (h : memWrite addr v s = .ok t) : ∃ u, memRead image t = .ok (v, u) := by
  rw [memWrite_of_cell v ha] at h
  cases h
  exact ⟨_, by simpa using memRead_of_cell (s := (s.log (.write addr v)).setMem (s.mem.write n v)) hi⟩

/-- Settles O13: two images of one byte of the window lead to one cell. -/
theorem ramWindowMirrors : Obligations.RamWindowMirrors := by
  refine fun p w hw => ⟨fun _ => translateAddr_inside_ram hw, fun s t addr image v hp hin hmod h => ?_⟩
  obtain ⟨ha₁, ha₂, haf, hal⟩ := hin addr (by simp)
  obtain ⟨hi₁, hi₂, hif, hil⟩ := hin image (by simp)
  subst hp
  exact memRead_of_same_cell (hmod ▸ translateAddr_inside_ram hw ha₁ ha₂ haf hal)
    (translateAddr_inside_ram hw hi₁ hi₂ hif hil) h

/-- Settles O14: two images of one of the eight registers lead to one cell. -/
theorem deviceWindowMirrors : Obligations.DeviceWindowMirrors := by
  refine fun p w hw => ⟨fun _ => translateAddr_inside_dev hw, fun s t addr image v hp hin hmod h => ?_⟩
  obtain ⟨ha₁, ha₂, ha₃, haf, hal⟩ := hin addr (by simp)
  obtain ⟨hi₁, hi₂, hi₃, hif, hil⟩ := hin image (by simp)
  subst hp
  exact memRead_of_same_cell (hmod ▸ translateAddr_inside_dev hw ha₁ ha₂ ha₃ haf hal)
    (translateAddr_inside_dev hw hi₁ hi₂ hi₃ hif hil) h

/-! ### The default map -/

theorem placeInRam_default_above {a : Nat} (h : 0x2000 ≤ a) : placeInRam Config.defaultPlatform a = none := by
  simp [placeInRam, Config.defaultPlatform, Config.ramMirrors, h]

theorem placeInDev_default_above {a : Nat} (h : 0x4000 ≤ a) : placeInDev Config.defaultPlatform a = none := by
  simp only [placeInDev, Config.defaultPlatform, Bool.and_eq_true, decide_eq_true_eq, ite_eq_right_iff]
  omega

theorem translateAddr_default_ram {addr : Addr} (h : addr.toNat < 0x2000) :
    translateAddr Config.defaultPlatform addr = .cell (addr.toNat % 0x0800) := by
  simpa using translateAddr_inside_ram (p := Config.defaultPlatform) (w := ⟨0x0000, 0x0800⟩) rfl rfl rfl
    addr.toNat.zero_le (by omega)

theorem translateAddr_default_dev {addr : Addr} (hf : 0x2000 ≤ addr.toNat) (hl : addr.toNat < 0x4000) :
    translateAddr Config.defaultPlatform addr = .cell (0x2000 + addr.toNat % 8) := by
  have hmod : (addr.toNat - 0x2000) % 8 = addr.toNat % 8 := by omega
  rw [← hmod]
  exact translateAddr_inside_dev (w := ⟨0x2000, 0x3FFF⟩) rfl rfl rfl (placeInRam_default_above hf) hf
    (Nat.le_of_lt_succ hl)

theorem translateAddr_default_above {addr : Addr} (h : 0x4000 ≤ addr.toNat) :
    translateAddr Config.defaultPlatform addr = .cell addr.toNat :=
  translateAddr_outside rfl rfl (placeInRam_default_above (Nat.le_trans (by decide) h)) (placeInDev_default_above h)

/-- Settles O15: the three ranges of the default map, and the images of cell 0. -/
theorem defaultMapPlaces : Obligations.DefaultMapPlaces := by
  refine ⟨fun _ _ => translateAddr_outside,
    fun _ => ⟨translateAddr_default_ram, translateAddr_default_dev, translateAddr_default_above⟩,
    fun s t v hp h mirror hm => ?_⟩
  have zero : translateAddr s.platform 0x0000 = .cell 0 := hp ▸ translateAddr_default_ram (by decide)
  have image : translateAddr s.platform mirror = .cell 0 := by
    have images : ∀ m ∈ ([0x0800, 0x1000, 0x1800] : List Addr), m.toNat < 0x2000 ∧ m.toNat % 0x0800 = 0 := by simp
    obtain ⟨hlt, hmod⟩ := images mirror hm
    rw [hp, translateAddr_default_ram hlt, hmod]
  exact memRead_of_same_cell zero image h

end Sys2Proof.Machine
end

section
/-! What an access at one address does (20_memory.md R32, R37, R44; 60_exceptions.md R171; O12, O17), and a bus on which
every access answers (R39, O18). -/

namespace Sys2Proof.Machine

/-! ### Reserved windows -/

section
variable {s : State} {addr : Addr} {w : WindowId} {off : Nat}

theorem memRead_of_device (h : translateAddr s.platform addr = .device w off) :
    memRead addr s = .ok (Config.handlerRead w off s.deviceLog,
      (s.log (.read addr (Config.handlerRead w off s.deviceLog))).tell
        (.read w off (Config.handlerRead w off s.deviceLog))) := by
  simp [memRead, h]

theorem memWrite_of_device (v : Byte) (h : translateAddr s.platform addr = .device w off) :
    memWrite addr v s = .ok ((s.log (.write addr v)).tell (.write w off v)) := by
  simp [memWrite, h]

end

/-- Settles O17: what a read and a write leave at an address that a handler answers, and at one that leads nowhere. -/
theorem reservedAccessReachesNoCell : Obligations.ReservedAccessReachesNoCell :=
  fun _ _ v => ⟨fun _ _ h => ⟨⟨_, memRead_of_device h⟩, memWrite_of_device v h⟩,
    fun h => ⟨memRead_of_nowhere h, memWrite_of_nowhere v h⟩⟩

/-! ### Reads after a write -/

theorem inspectCell_of_cell {s : State} {addr : Addr} {n : Nat} (h : translateAddr s.platform addr = .cell n) :
    inspectCell addr s = some (s.mem.read n) := by
  simp [inspectCell, h]

/-- The byte a read answers is fixed by the platform, the cell the address leads to, and the accesses that handlers have
seen (log 3). -/
theorem memRead_byte_congr {s t : State} {addr : Addr} (hp : t.platform = s.platform)
    (hc : inspectCell addr t = inspectCell addr s) (hd : t.deviceLog = s.deviceLog) (b : Byte) :
    (∃ u, memRead addr t = .ok (b, u)) ↔ ∃ u, memRead addr s = .ok (b, u) := by
  cases h : translateAddr s.platform addr with
  | cell n =>
    have ht : translateAddr t.platform addr = .cell n := hp ▸ h
    have hn : t.mem.read n = s.mem.read n := by simpa [inspectCell_of_cell ht, inspectCell_of_cell h] using hc
    simp [memRead_of_cell ht, memRead_of_cell h, hn]
  | device w off =>
    have ht : translateAddr t.platform addr = .device w off := hp ▸ h
    simp [memRead_of_device ht, memRead_of_device h, hd]
  | nowhere =>
    have ht : translateAddr t.platform addr = .nowhere := hp ▸ h
    simp [memRead_of_nowhere ht, memRead_of_nowhere h]

/-- Settles O12: reads and writes complete where the bus answers; a write to a cell shows through each address of that
cell, and leaves the platform, every other cell and what handlers have seen. -/
theorem translationIsReadWriteSymmetric : Obligations.TranslationIsReadWriteSymmetric := by
  refine fun s addr v => ⟨fun s' hp => ?answers, fun t n hn h => ?write⟩
  case answers =>
    rw [memWrite_completes, hp, ← memRead_completes, Prod.exists]
  case write =>
    obtain ⟨hp, hframe⟩ := memWrite_frame h
    have hwritten : t = (s.log (.write addr v)).setMem (s.mem.write n v) :=
      Except.ok.inj (h.symm.trans (memWrite_of_cell v hn))
    refine ⟨hp, fun other => ⟨fun ho => ?same, fun ho => ?other⟩⟩
    case same =>
      refine ⟨?_, memRead_of_same_cell hn ho h⟩
      rw [inspectCell_of_cell (hp ▸ ho), hwritten]
      simp
    case other =>
      have hc := hframe other (hn ▸ ho)
      exact ⟨hc, memRead_byte_congr hp hc (by simp [hwritten])⟩

/-! ### A bus that always answers -/

theorem step_ne_refused (s : State) (q : Refusal) : step s ≠ .refused q := by
  unfold step
  split
  · exact exec_ne_refused _ _ q
  · nofun

/-- A step faults at an address that leads nowhere, so it completes where every address answers. -/
theorem step_completes_of_allAnswer {s : State} (hs : AllAnswer s.platform) : ∃ t, step s = .next t := by
  cases h : step s with
  | next t => exact ⟨t, rfl⟩
  | fault f =>
    obtain ⟨-, addr, -, hn, -⟩ := step_fault_from h
    exact absurd hn (hs addr)
  | refused q => exact absurd h (step_ne_refused s q)

theorem translateAddr_flatBus (addr : Addr) : translateAddr Config.flatBus addr = .cell addr.toNat :=
  translateAddr_outside rfl rfl rfl rfl

/-- Settles O18: on FLAT_BUS every address is a cell, so every address answers. -/
theorem flatBusNeverFaults : Obligations.FlatBusNeverFaults := by
  refine ⟨translateAddr_flatBus, fun s hs => step_completes_of_allAnswer fun addr hn => ?_⟩
  rw [hs, translateAddr_flatBus] at hn
  cases hn

end Sys2Proof.Machine
end

section
/-! The storage cells change only by bus writes (20_memory.md R31, 40_addressing.md R86; O9): a relation between two states
of a run that reads, writes and register updates all keep, whether they complete or fault. -/

namespace Sys2Proof.Machine

/-- `t` comes after `s` on the same platform, and each cell in which they differ is one that a write in the transactions of
`t` leads to. -/
structure Traced (s t : State) : Prop where
  platform : t.platform = s.platform
  trace : s.trace ⊆ t.trace
  cells : ∀ n, t.mem.read n ≠ s.mem.read n →
    ∃ addr v, Transaction.write addr v ∈ t.trace ∧ translateAddr s.platform addr = .cell n

/-- Where no cell has changed, there is no write to show. -/
theorem Traced.of_mem {s t : State} (hp : t.platform = s.platform) (ht : s.trace ⊆ t.trace) (hm : t.mem = s.mem) :
    Traced s t :=
  ⟨hp, ht, fun n hn => absurd (by rw [hm]) hn⟩

/-- An update of registers, flags or reports. -/
theorem Traced.of_eq {s t : State} (hp : t.platform = s.platform) (ht : t.trace = s.trace) (hm : t.mem = s.mem) :
    Traced s t :=
  .of_mem hp (by simp [ht]) hm

theorem Traced.setSp (s : State) (v : Byte) : Traced s (s.setSp v) := .of_eq rfl rfl rfl

theorem Traced.setFlags (s : State) (f : Flags) : Traced s (s.setFlags f) := .of_eq rfl rfl rfl

theorem Traced.trans {s t u : State} (h : Traced s t) (k : Traced t u) : Traced s u := by
  refine ⟨k.platform.trans h.platform, fun _ hx => k.trace (h.trace hx), fun n hn => ?_⟩
  by_cases hut : u.mem.read n = t.mem.read n
  · obtain ⟨addr, v, hw, hc⟩ := h.cells n (hut ▸ hn)
    exact ⟨addr, v, k.trace hw, hc⟩
  · obtain ⟨addr, v, hw, hc⟩ := k.cells n hut
    exact ⟨addr, v, hw, h.platform ▸ hc⟩

/-- Whatever `r` computes from `s`, the state of its result, or the state its fault leaves, is traced from `s`. -/
def TracedRun {α : Type} (s : State) (state : α → State) (r : Except Fault α) : Prop :=
  (∀ b, r = .ok b → Traced s (state b)) ∧ ∀ f, r = .error f → Traced s f.left

section
variable {α β : Type} {s t : State} {state : α → State} {r : Except Fault α}

theorem TracedRun.ok {b : α} (h : Traced s (state b)) : TracedRun s state (.ok b) :=
  ⟨fun _ e => by cases e; exact h, fun _ e => by cases e⟩

theorem TracedRun.from (h : Traced s t) (k : TracedRun t state r) : TracedRun s state r :=
  ⟨fun b hb => h.trans (k.1 b hb), fun f hf => h.trans (k.2 f hf)⟩

theorem TracedRun.bind {final : β → State} {g : α → Except Fault β} (hr : TracedRun s state r)
    (hg : ∀ b, TracedRun (state b) final (g b)) : TracedRun s final (r >>= g) := by
  cases r with
  | ok b => exact .from (hr.1 b rfl) (hg b)
  | error f => exact ⟨fun _ e => (nomatch e), fun _ e => by cases e; exact hr.2 f rfl⟩

/-- A computation that only reads: its state is observed, or its fault is that of a read. -/
theorem TracedRun.of_reads (hi : Inside s state r) (ho : ∀ b, r = .ok b → Observed s (state b))
    (hf : ∀ f, r = .error f → ReadFault s f) : TracedRun s state r := by
  refine ⟨fun b hb => ?_, fun f h => ?_⟩
  · obtain ⟨l, hl⟩ := (hi.1 b hb).trace
    exact .of_mem (ho b hb).platform (by simp [hl]) (ho b hb).mem
  · obtain ⟨-, -, hm⟩ := (hf f h).nothingCommitted
    obtain ⟨u, addr, hu, -, he⟩ := hi.2 f h
    obtain ⟨l, hl⟩ := hu.trace
    obtain rfl | ⟨v, rfl⟩ := he
    · exact .of_mem hu.platform (by simp [raiseRead, Fault.left, hl]) hm
    · exact .of_mem hu.platform (by simp [raiseWrite, Fault.left, hl]) hm

end

/-! ### The operations of a step -/

theorem memRead_traced (addr : Addr) (s : State) : TracedRun s Prod.snd (memRead addr s) :=
  .of_reads (memRead_inside addr s) (fun _ h => memRead_observed h) fun _ h => memRead_readFault h

/-- A write changes no cell but the one its address leads to, and is itself the transaction that leads there. -/
theorem memWrite_traced (addr : Addr) (v : Byte) (s : State) : TracedRun s id (memWrite addr v s) := by
  refine ⟨fun t h => ?_, fun f h => ?_⟩
  · obtain ⟨-, ⟨k, hk, rfl⟩ | ⟨w, off, -, rfl⟩⟩ := memWrite_ok h
    · refine ⟨rfl, by simp, fun n hn => ⟨addr, v, by simp, ?_⟩⟩
      by_cases hnk : n = k
      · exact hnk ▸ hk
      · exact absurd (Memory.read_write_other s.mem v hnk) hn
    · exact .of_mem rfl (by simp) rfl
  · obtain ⟨-, rfl⟩ := memWrite_error h
    exact .of_mem rfl (by simp [raiseWrite, Fault.left]) rfl

theorem push_traced (v : Byte) (s : State) : TracedRun s id (push v s) :=
  (memWrite_traced _ v s).bind fun _ => .ok (.of_eq rfl rfl rfl)

theorem pushWord_traced (v : Addr) (s : State) : TracedRun s id (pushWord v s) :=
  (push_traced _ s).bind fun t => push_traced _ t

theorem pull_traced (s : State) : TracedRun s Prod.snd (pull s) :=
  .from (.setSp s _) (memRead_traced _ _)

theorem pullWord_traced (s : State) : TracedRun s Prod.snd (pullWord s) :=
  (pull_traced s).bind fun b => (pull_traced b.2).bind fun _ => .ok (.of_eq rfl rfl rfl)

theorem readVector_traced (vector : Addr) (s : State) : TracedRun s Prod.snd (readVector vector s) :=
  (memRead_traced _ s).bind fun b => (memRead_traced _ b.2).bind fun _ => .ok (.of_eq rfl rfl rfl)

theorem effAddr_traced (m : MemOperand) (s : State) : TracedRun s Prod.snd (effAddr m s) :=
  .of_reads (effAddr_inside m s) (fun _ h => effAddr_observed h) fun _ h => effAddr_error h

theorem resolve_traced (o : Operand) (s : State) : TracedRun s Prod.snd (resolve o s) :=
  .of_reads (resolve_inside o s) (fun _ h => resolve_observed h) fun _ h => resolve_error h

theorem load_traced (l : Loc) (s : State) : TracedRun s Prod.snd (load l s) :=
  .of_reads (load_inside l s) (fun _ h => load_observed h) fun _ h => load_error h

theorem readOperand_traced (o : Operand) (s : State) : TracedRun s Prod.snd (readOperand o s) :=
  .of_reads (readOperand_inside o s) (fun _ h => readOperand_observed h) fun _ h => readOperand_error h

theorem fetch_traced (s : State) : TracedRun s Prod.snd (fetch s) :=
  .of_reads ⟨fun _ h => (fetch_ok h).2, fun _ h => (fetch_error h).2⟩ (fun _ h => (fetch_ok h).1)
    fun _ h => (fetch_error h).1

theorem store_traced (l : Loc) (v : Byte) (s : State) : TracedRun s id (store l v s) := by
  cases l with
  | mem addr => exact memWrite_traced addr v s
  | _ => exact .ok (.of_eq rfl rfl rfl)

/-! ### The rules of the instructions -/

theorem read_traced {o : Operand} {s : State} {g : Byte × State → State} (hg : ∀ b, Traced b.2 (g b)) :
    TracedRun s id (readOperand o s >>= fun b => .ok (g b)) :=
  (readOperand_traced o s).bind fun b => .ok (hg b)

theorem opModify_traced (value : Byte → Bool → Byte) (flags : Byte → Byte → Flags → Flags) (o : Operand) (s : State) :
    TracedRun s id (opModify value flags o s) :=
  (resolve_traced o s).bind fun b => (load_traced b.1.loc b.2).bind fun c =>
    (store_traced b.1.loc _ c.2).bind fun _ => .ok (.of_eq rfl rfl rfl)

theorem opStore_traced (reg : State → Byte) (m : MemOperand) (s : State) : TracedRun s id (opStore reg m s) :=
  (effAddr_traced m s).bind fun b => (memWrite_traced _ _ b.2).bind fun _ => .ok (.of_eq rfl rfl rfl)

theorem opJmp_traced (m : MemOperand) (s : State) : TracedRun s id (opJmp m s) :=
  (effAddr_traced m s).bind fun _ => .ok (.of_eq rfl rfl rfl)

theorem opJsr_traced (m : MemOperand) (s : State) : TracedRun s id (opJsr m s) :=
  (effAddr_traced m s).bind fun b => (pushWord_traced _ b.2).bind fun _ => .ok (.of_eq rfl rfl rfl)

theorem takeTrap_traced (ret vector : Addr) (b4 : Bool) (s : State) : TracedRun s id (takeTrap ret vector b4 s) :=
  (pushWord_traced ret s).bind fun t => (push_traced _ t).bind fun u =>
    .from (.setFlags u _) ((readVector_traced vector _).bind fun _ => .ok (.of_eq rfl rfl rfl))

theorem returnFromTrap_traced (s : State) : TracedRun s id (returnFromTrap s) :=
  (pull_traced s).bind fun b => .from (.setFlags b.2 _) ((pullWord_traced _).bind fun _ => .ok (.of_eq rfl rfl rfl))

theorem diagnosed_traced (op : Byte) (o : Operand) (s : State) : TracedRun s id (diagnosed op o s) :=
  (resolve_traced o s).bind fun _ => .ok (.of_eq rfl rfl rfl)

theorem withAddress_traced {o : Operand} {f : MemOperand → Except Fault State} {s : State}
    (hf : ∀ m, TracedRun s id (f m)) : TracedRun s id (withAddress o f s) := by
  cases o with
  | memory m => exact hf m
  | _ => exact .ok (.of_eq rfl rfl rfl)

theorem withOffset_branch_traced (o : Operand) (taken : Bool) (s : State) :
    Traced s (withOffset o (opBranch taken · s) s) := by
  cases o with
  | relative off => cases taken <;> exact .of_eq rfl rfl rfl
  | _ => exact .of_eq rfl rfl rfl

/-- The rule of every instruction changes cells only by the writes it issues. -/
theorem perform_traced (i : Instr) (s : State) : TracedRun s id (perform i s) := by
  unfold perform
  cases i.mnemonic with
  | adc | sbc | cmp | cpx | cpy | and | ora | eor | bit | lda | ldx | ldy => exact read_traced fun _ => .of_eq rfl rfl rfl
  | asl | lsr | rol | ror | inc | dec => exact opModify_traced _ _ _ s
  | sta | stx | sty => exact withAddress_traced fun m => opStore_traced _ m s
  | jmp => exact withAddress_traced fun m => opJmp_traced m s
  | jsr => exact withAddress_traced fun m => opJsr_traced m s
  | rts => exact (pullWord_traced s).bind fun _ => .ok (.of_eq rfl rfl rfl)
  | pha | php => exact (push_traced _ s).bind fun _ => .ok (.of_eq rfl rfl rfl)
  | pla | plp => exact (pull_traced s).bind fun _ => .ok (.of_eq rfl rfl rfl)
  | brk => exact takeTrap_traced _ _ _ s
  | rti => exact returnFromTrap_traced s
  | bcc | bcs | beq | bne | bmi | bpl | bvc | bvs => exact .ok (withOffset_branch_traced _ _ s)
  | inx | iny | dex | dey | tax | tay | txa | tya | tsx | txs | nop | clc | sec | cli | sei | cld | sed | clv =>
    exact .ok (.of_eq rfl rfl rfl)
  | jam | slo | nopUndoc | anc | rla | sre | alr | rra | arr | sax | xaa | ahx | tas | shy | shx | lax | las | dcp | axs
  | isc | sbcUndoc => exact diagnosed_traced _ _ s

/-! ### The step -/

theorem step_next_traced {s t : State} (h : step s = .next t) : Traced s.beginStep t := by
  obtain ⟨i, u, hu, ht⟩ := step_eq_next.mp h
  rw [exec_eq_perform, finish_eq_next] at ht
  exact ((fetch_traced _).1 _ hu).trans ((perform_traced i u).1 t ht)

theorem step_fault_traced {s : State} {f : Fault} (h : step s = .fault f) : Traced s.beginStep f.left := by
  obtain h | ⟨i, u, hu, hf⟩ := step_eq_fault.mp h
  · exact (fetch_traced _).2 f h
  · rw [exec_eq_perform, finish_eq_fault] at hf
    exact ((fetch_traced _).1 _ hu).trans ((perform_traced i u).2 f hf)

/-- Settles O9: a step begins with no transactions, so the write that accounts for a changed cell is one of its own. -/
theorem cellsChangeOnlyByBusWrites : Obligations.CellsChangeOnlyByBusWrites := by
  rintro s t (h | ⟨f, h, rfl⟩)
  · exact (step_next_traced h).cells
  · exact (step_fault_traced h).cells

end Sys2Proof.Machine
end

section
/-! Decoding and encoding (30_encoding.md R50 to R59). `decode_eq_ok` says once what the decoder answers: it takes the
operand bytes that the opcode's mode asks for and assembles them. What is left is that assembling an opcode byte with
its operand bytes and taking the instruction apart undo each other, in both orders. -/

namespace Sys2Proof

/-! ### Cutting a byte string at the instruction's end -/

/-- The instruction of an opcode byte and a list of operand bytes; `assemble` ignores the bytes its mode does not have
(R52). -/
def assembleList (op : Byte) (ops : List Byte) : Instr := assemble op (ops.getD 0 0) (ops.getD 1 0)

theorem decode_append {op : Byte} {ops : List Byte} (h : ops.length = operandCount op) (rest : List Byte) :
    decode (op :: ops ++ rest) = .ok (assembleList op ops, rest) := by
  have hle := operandCount_le op
  match ops with
  | [] | [_] | [_, _] => simp [decode, assembleList, ← h]
  | _ :: _ :: _ :: _ =>
    simp only [List.length_cons] at h
    omega

/-- What the decoder answers, and when. -/
theorem decode_eq_ok {bs rest : List Byte} {i : Instr} :
    decode bs = .ok (i, rest) ↔
      ∃ op ops, ops.length = operandCount op ∧ bs = op :: ops ++ rest ∧ i = assembleList op ops := by
  constructor
  · intro h
    unfold decode at h
    split at h
    · cases h
    · next op tail =>
      split at h
      · next hn => cases h; exact ⟨op, [], hn.symm, rfl, rfl⟩
      · next b1 _ hn => cases h; exact ⟨op, [b1], hn.symm, rfl, rfl⟩
      · next b1 b2 _ hn => cases h; exact ⟨op, [b1, b2], hn.symm, rfl, rfl⟩
      · cases h
  · rintro ⟨op, ops, hlen, rfl, rfl⟩
    exact decode_append hlen rest

/-! ### Assembling and taking apart -/

/-- The operand that a mode makes of its operand bytes, `b2:b1` assembled (R52). -/
def Mode.operandOf (b1 b2 : Byte) : Mode → Operand
  | .implicit => .implicit
  | .accumulator => .accumulator
  | .immediate => .immediate b1
  | .relative => .relative b1
  | .zeroPage => .memory (.zeroPage b1)
  | .zeroPageX => .memory (.zeroPageX b1)
  | .zeroPageY => .memory (.zeroPageY b1)
  | .absolute => .memory (.absolute (word b2 b1))
  | .absoluteX => .memory (.absoluteX (word b2 b1))
  | .absoluteY => .memory (.absoluteY (word b2 b1))
  | .indirect => .memory (.indirect (word b2 b1))
  | .indirectX => .memory (.indirectX b1)
  | .indirectY => .memory (.indirectY b1)

theorem bytes_operandOf (m : Mode) (b1 b2 : Byte) : (m.operandOf b1 b2).bytes = [b1, b2].take m.operandBytes := by
  cases m <;> simp [Mode.operandOf, Operand.bytes, MemOperand.bytes, Mode.operandBytes]

/-- The opcodes of the instructions are all the 256 bytes (R51). -/
theorem opcode_surjective (op : Byte) : ∃ i : Instr, i.opcode = op :=
  ⟨assemble op 0 0, (by decide : ∀ op, (assemble op 0 0).opcode = op) op⟩

/-- An opcode byte fixes the row of the table, whatever the operand bytes are, and the operand is in the mode of the
catalog's entry. -/
theorem assemble_opcode_operand (op b1 b2 : Byte) :
    (assemble op b1 b2).opcode = op ∧ (assemble op b1 b2).operand = (catalog op).mode.operandOf b1 b2 := by
  obtain ⟨i, hi⟩ := opcode_surjective op
  cases i <;> (simp only [Instr.opcode] at hi; subst hi; exact ⟨rfl, rfl⟩)

theorem length_operand_bytes (i : Instr) : i.operand.bytes.length = operandCount i.opcode := by
  obtain ⟨-, hmode, -, -⟩ := Laws.catalog_agrees i
  rw [operand_bytes_length, operandCount, hmode]

/-- Assembling an instruction's opcode and operand bytes gives the instruction: one case per row of the opcode table,
where a two-byte operand is put together again from its halves (R40). -/
theorem assembleList_opcode_bytes (i : Instr) : assembleList i.opcode i.operand.bytes = i := by
  cases i <;> simp only [Instr.opcode] <;> try refine .trans ?_ (congrArg _ (word_hiByte_loByte _))
  all_goals rfl

theorem take_getD_length {ops : List Byte} (h : ops.length ≤ 2) :
    [ops.getD 0 0, ops.getD 1 0].take ops.length = ops := by
  match ops with
  | [] | [_] | [_, _] => rfl

/-- Taking apart the instruction of an opcode byte and as many operand bytes as its mode has gives these bytes. -/
theorem encode_assembleList {op : Byte} {ops : List Byte} (h : ops.length = operandCount op) :
    encode (assembleList op ops) = op :: ops := by
  obtain ⟨hop, hoperand⟩ := assemble_opcode_operand op (ops.getD 0 0) (ops.getD 1 0)
  unfold encode assembleList
  rw [hop, hoperand, bytes_operandOf, ← operandCount, ← h, take_getD_length (h ▸ operandCount_le op)]

/-! ### The obligations -/

/-- Settles O1: the encoding is the opcode with as many operand bytes as its mode has, and assembling them gives the
instruction back. -/
theorem decodeUndoesEncode : Obligations.DecodeUndoesEncode := fun i _ =>
  decode_eq_ok.mpr ⟨i.opcode, i.operand.bytes, length_operand_bytes i, rfl, (assembleList_opcode_bytes i).symm⟩

/-- Settles O2: the bytes the decoder took are those of the instruction it assembled. -/
theorem encodeUndoesDecode : Obligations.EncodeUndoesDecode := by
  intro bs rest i h
  obtain ⟨op, ops, hlen, rfl, rfl⟩ := decode_eq_ok.mp h
  rw [encode_assembleList hlen]

/-- Settles O3: two bytes after the opcode are enough for every mode, and the decoder takes what the mode asks for. -/
theorem everyByteIsAnOpcode : Obligations.EveryByteIsAnOpcode := by
  intro op b1 b2 rest
  have hlen : ((b1 :: b2 :: rest).take (operandCount op)).length = operandCount op := by
    have hle := operandCount_le op
    simp only [List.length_take, List.length_cons]
    omega
  obtain ⟨hop, -⟩ := assemble_opcode_operand op _ _
  refine ⟨_, decode_eq_ok.mpr ⟨op, _, hlen, ?_, rfl⟩, hop⟩
  rw [List.cons_append, operandCount, List.take_append_drop]

/-- Settles O4: the instruction assembled from an opcode byte has that opcode, and the catalog describes every
instruction. -/
theorem catalogDescribesEveryOpcode : Obligations.CatalogDescribesEveryOpcode := by
  intro op b1 b2
  obtain ⟨hop, -⟩ := assemble_opcode_operand op b1 b2
  obtain ⟨hmnemonic, hmode, hwf, hlen⟩ := Laws.catalog_agrees (assemble op b1 b2)
  rw [hop] at hmnemonic hmode hlen
  exact ⟨hop, hmnemonic.symm, hmode.symm, hwf, hlen, operandCount_le op⟩

/-- Settles O5: the decoder evaluated on the eight words. -/
theorem opcodeWordsDecode : Obligations.OpcodeWordsDecode := by
  unfold Obligations.OpcodeWordsDecode
  decide

end Sys2Proof
end

section
/-! The resolver (40_addressing.md R77 to R86): the address and the page-cross bit of each mode (O19 to O22), and that
resolving only reads (O23). -/

namespace Sys2Proof.Machine

/-! ### Adding an index (R77 to R82, R85) -/

theorem zeroPageAddr_toNat (z : Byte) : (zeroPageAddr z).toNat = z.toNat := by
  simp only [zeroPageAddr, BitVec.toNat_setWidth]
  omega

theorem indexed_addr_toNat (base : Addr) (index : Byte) :
    (indexed base index).addr.toNat = (base.toNat + index.toNat) % 65536 := by
  simp only [indexed, BitVec.toNat_add, BitVec.toNat_setWidth]
  omega

theorem indexed_cross_eq_true {base : Addr} {index : Byte} :
    (indexed base index).cross = true ↔ 256 ≤ (loByte base).toNat + index.toNat := decide_eq_true_iff

/-- The low byte of the sum carries just where the high byte of the address moves, the wrap to page 0 included. -/
theorem indexed_cross_iff_hiByte_ne (base : Addr) (index : Byte) :
    (indexed base index).cross = true ↔ hiByte (indexed base index).addr ≠ hiByte base := by
  have hbase := base.isLt
  have hindex := index.isLt
  rw [indexed_cross_eq_true, Ne, ← BitVec.toNat_inj, hiByte_toNat, hiByte_toNat, indexed_addr_toNat, loByte_toNat]
  omega

/-- The operand ZeroPageY is the documented LDX's and STX's alone (R79). -/
theorem documented_zeroPageY {i : Instr} {z : Byte} (hd : i.mnemonic.documented = true)
    (ho : i.operand = .memory (.zeroPageY z)) : i = .ldxZpY z ∨ i = .stxZpY z := by
  cases i with
  | ldxZpY z' =>
    cases ho
    exact .inl rfl
  | stxZpY z' =>
    cases ho
    exact .inr rfl
  | sax97 z' | laxB7 z' => cases hd
  | _ => cases ho

/-- Settles O19: the three modes access nothing, and an 8-bit sum is a sum modulo 256. -/
theorem zeroPageModesStayInPageZero : Obligations.ZeroPageModesStayInPageZero := by
  refine ⟨fun z s => ⟨⟨_, rfl, zeroPageAddr_toNat z, rfl⟩, ⟨_, rfl, ?_, rfl⟩, ⟨_, rfl, ?_, rfl⟩⟩, by decide,
    fun i z hd ho => ?_⟩
  · rw [zeroPageAddr_toNat, BitVec.toNat_add]
  · rw [zeroPageAddr_toNat, BitVec.toNat_add]
  · obtain rfl | rfl := documented_zeroPageY hd ho
    · exact .inl ⟨rfl, rfl⟩
    · exact .inr ⟨rfl, rfl⟩

/-- Settles O20: the resolver answers the indexed address without a read. -/
theorem absoluteModesAddTheIndex : Obligations.AbsoluteModesAddTheIndex :=
  fun base s => ⟨rfl, ⟨_, rfl, indexed_addr_toNat base s.x, indexed_cross_iff_hiByte_ne base s.x⟩,
    ⟨_, rfl, indexed_addr_toNat base s.y, indexed_cross_iff_hiByte_ne base s.y⟩⟩

/-! ### Pointers (R83 to R85) -/

/-- The second pointer byte of JMP indirect stands after the first, except at the end of a page (R83). -/
theorem word_hiByte_loByte_succ {p : Addr} (h : loByte p ≠ 0xFF) : word (hiByte p) (loByte p + 1) = p + 1 := by
  have hlo : (loByte p).toNat ≠ 255 := fun e => h (BitVec.eq_of_toNat_eq e)
  apply BitVec.eq_of_toNat_eq
  have one : (1 : Byte).toNat = 1 ∧ (1 : Addr).toNat = 1 := ⟨rfl, rfl⟩
  have hp := p.isLt
  rw [loByte_toNat] at hlo
  rw [word_toNat, BitVec.toNat_add, BitVec.toNat_add, hiByte_toNat, loByte_toNat, one.1, one.2]
  omega

theorem indirect_operand {i : Instr} {p : Addr} (h : i.operand = .memory (.indirect p)) : i = .jmpInd p := by
  cases i with
  | jmpInd p' =>
    cases h
    rfl
  | _ => cases h

/-- Settles O21: the mode is its two pointer reads, one after the other. -/
theorem indirectStaysInThePointersPage : Obligations.IndirectStaysInThePointersPage := by
  refine ⟨fun _ _ => indirect_operand, fun p s => ⟨fun lo u hi w hlo hhi => ?_, fun f hlo => ?_,
    fun lo u f hlo hhi => ?_, hiByte_word _ _, word_hiByte_loByte_succ, ?_⟩⟩
  · exact bind_ok.mpr ⟨_, hlo, bind_ok.mpr ⟨_, hhi, rfl⟩⟩
  · exact bind_error.mpr (.inl hlo)
  · exact bind_error.mpr (.inr ⟨_, hlo, bind_error.mpr (.inl hhi)⟩)
  · rintro rfl
    decide

theorem readZeroPagePointer_of_reads {z lo hi : Byte} {s u w : State} (hlo : memRead (zeroPageAddr z) s = .ok (lo, u))
    (hhi : memRead (zeroPageAddr (z + 1)) u = .ok (hi, w)) : readZeroPagePointer z s = .ok (word hi lo, w) :=
  bind_ok.mpr ⟨_, hlo, bind_ok.mpr ⟨_, hhi, rfl⟩⟩

/-- Settles O22: the pointer is read in page 0; the reads leave Y, which is then added. -/
theorem zeroPagePointersWrap : Obligations.ZeroPagePointersWrap := by
  refine fun z s => ⟨fun lo u hi w hlo hhi => ?_, fun lo u hi w hlo hhi => ?_⟩
  · simp [effAddr, readZeroPagePointer_of_reads hlo hhi]
  · have hp := readZeroPagePointer_of_reads hlo hhi
    have hy : w.y = s.y := (readZeroPagePointer_observed hp).y
    refine ⟨indexed (word hi lo) s.y, by simp [effAddr, hp, hy], ?_, ?_⟩
    · rw [indexed_addr_toNat, word_toNat]
    · rw [indexed_cross_eq_true, loByte_word]

/-! ### The resolver only reads (R86) -/

/-- From `s` to `t`, at most `n` transactions were issued, all of them completed reads. -/
def ReadsAtMost (n : Nat) (s t : State) : Prop :=
  ∃ l, t.trace = s.trace ++ l ∧ l.length ≤ n ∧ ∀ x ∈ l, ∃ addr v, x = Transaction.read addr v

theorem ReadsAtMost.refl (n : Nat) (s : State) : ReadsAtMost n s s := ⟨[], by simp⟩

theorem ReadsAtMost.trans {m n : Nat} {s t u : State} (h : ReadsAtMost m s t) (k : ReadsAtMost n t u) :
    ReadsAtMost (m + n) s u := by
  obtain ⟨l, hl, hm, hr⟩ := h
  obtain ⟨l', hl', hn, hr'⟩ := k
  refine ⟨l ++ l', by rw [hl', hl, List.append_assoc], by rw [List.length_append]; omega, fun x hx => ?_⟩
  exact (List.mem_append.mp hx).elim (hr x) (hr' x)

theorem memRead_readsAtMost {addr : Addr} {v : Byte} {s t : State} (h : memRead addr s = .ok (v, t)) :
    ReadsAtMost 1 s t := by
  have ht : t.trace = s.trace ++ [.read addr v] := by
    obtain ⟨-, ⟨n, -, -, rfl⟩ | ⟨w, off, -, rfl⟩⟩ := memRead_ok h
    · rfl
    · rfl
  exact ⟨_, ht, by simp, by simp⟩

theorem readZeroPagePointer_readsAtMost {z : Byte} {p : Addr} {s t : State}
    (h : readZeroPagePointer z s = .ok (p, t)) : ReadsAtMost 2 s t := by
  obtain ⟨⟨lo, u⟩, hu, h⟩ := bind_ok.mp h
  obtain ⟨⟨hi, w⟩, hw, h⟩ := bind_ok.mp h
  cases h
  exact (memRead_readsAtMost hu).trans (memRead_readsAtMost hw)

/-- Only the pointer modes access the bus, for the two bytes of the pointer. -/
theorem effAddr_readsAtMost {m : MemOperand} {e : EffAddr} {s t : State} (h : effAddr m s = .ok (e, t)) :
    ReadsAtMost 2 s t := by
  cases m with
  | indirect p =>
    obtain ⟨⟨lo, u⟩, hu, h⟩ := bind_ok.mp h
    obtain ⟨⟨hi, w⟩, hw, h⟩ := bind_ok.mp h
    cases h
    exact (memRead_readsAtMost hu).trans (memRead_readsAtMost hw)
  | indirectX z | indirectY z =>
    obtain ⟨⟨p, u⟩, hu, h⟩ := bind_ok.mp h
    cases h
    exact readZeroPagePointer_readsAtMost hu
  | _ =>
    cases h
    exact .refl 2 s

theorem resolve_readsAtMost {o : Operand} {r : Resolved} {s t : State} (h : resolve o s = .ok (r, t)) :
    ReadsAtMost 2 s t := by
  cases o with
  | memory m =>
    obtain ⟨⟨e, u⟩, hu, h⟩ := bind_ok.mp h
    cases h
    exact effAddr_readsAtMost hu
  | _ =>
    cases h
    exact .refl 2 s

/-- An address that shows a byte leads to a storage cell, and a read there answers that byte. -/
theorem memRead_of_inspectCell {s : State} {addr : Addr} {b : Byte} (h : inspectCell addr s = some b) :
    memRead addr s = .ok (b, s.log (.read addr b)) := by
  cases hp : translateAddr s.platform addr with
  | cell n =>
    rw [inspectCell_of_cell hp, Option.some.injEq] at h
    rw [memRead_of_cell hp, h]
  | device w off => simp [inspectCell, hp] at h
  | nowhere => simp [inspectCell, hp] at h

theorem readOperand_memory {m : MemOperand} {e : EffAddr} {s u : State} (h : effAddr m s = .ok (e, u)) :
    readOperand (.memory m) s = memRead e.addr u := by
  simp [readOperand, resolve, h, load]

/-- Settles O23: the resolver's frame and its transactions; the pointer reads leave the cell at the effective address. -/
theorem resolverOnlyReads : Obligations.ResolverOnlyReads := by
  refine ⟨fun o s t r h => ⟨resolve_observed h, resolve_readsAtMost h⟩,
    fun s => ⟨fun v => rfl, rfl, fun m e u b he hb => ?_⟩⟩
  rw [readOperand_memory he]
  exact memRead_of_inspectCell (((effAddr_observed he).inspectCell _).trans hb)

end Sys2Proof.Machine
end

section
/-! The stack controller (40_addressing.md R87, R88; O24). -/

namespace Sys2Proof.Machine

theorem push_of_memWrite {v : Byte} {s t : State} (h : memWrite (stackAddr s.sp) v s = .ok t) :
    push v s = .ok (t.setSp (s.sp - 1)) := by
  obtain ⟨-, -, -, hsp, -⟩ := memWrite_registers h
  simp [push, h, hsp]

/-- A push into storage leaves its byte in the cell that the next pull reads. -/
theorem pull_push {v : Byte} {s t : State} (hs : IsStorage s.platform (stackAddr s.sp)) (h : push v s = .ok t) :
    ∃ u, pull t = .ok (v, u) ∧ Observed (t.setSp s.sp) u := by
  obtain ⟨w, hw, rfl⟩ := push_ok h
  obtain ⟨-, -, -, hsp, -⟩ := memWrite_registers hw
  have hback : w.sp - 1 + 1 = s.sp := by rw [hsp, BitVec.sub_add_cancel]
  have hcell : inspectCell (stackAddr s.sp) w = some v := memWrite_stored hw hs
  have hread : pull (w.setSp (w.sp - 1)) = .ok (v, (w.setSp s.sp).log (.read (stackAddr s.sp) v)) := by
    unfold pull
    rw [State.setSp_sp, hback]
    exact memRead_of_inspectCell (s := w.setSp s.sp) hcell
  exact ⟨_, hread, .log _ _⟩

/-- Settles O24: push and pull are one bus access each, at the stack address before or after S moves. -/
theorem pushThenPullRestores : Obligations.PushThenPullRestores := by
  refine fun v s => ⟨fun t h => push_of_memWrite h, fun f h => ⟨?_, ?_⟩, fun b t h => ⟨h, (memRead_observed h).sp⟩,
    fun f h => ⟨h, ?_⟩, fun t hs h => ?_⟩
  · exact bind_error.mpr (.inl h)
  · obtain ⟨-, rfl⟩ := memWrite_error h
    rfl
  · obtain ⟨-, rfl⟩ := memRead_error h
    rfl
  · obtain ⟨u, hu, ho⟩ := pull_push hs h
    exact ⟨u, hu, ho.sp, ho.mem⟩

end Sys2Proof.Machine
end

section
/-! Where PC stands after an instruction (40_addressing.md R89; O53), and that every instruction completes where every
access answers (R70, O52). -/

namespace Sys2Proof.Machine

/-! ### Ending after the instruction's bytes -/

/-- Where `r` completes, PC stands after an opcode byte at the PC of `s` and `n` operand bytes. -/
def Advances (n : Nat) (s : State) (r : Except Fault State) : Prop := ∀ t, r = .ok t → t.pc = nextPc n s

theorem Advances.ok {n : Nat} {s t : State} (h : t.pc = nextPc n s) : Advances n s (.ok t) :=
  fun _ e => by cases e; exact h

/-- A computation inside the step keeps PC, so what follows it may advance from there. -/
theorem Advances.bind {α : Type} {n : Nat} {s : State} {state : α → State} {x : Except Fault α}
    {g : α → Except Fault State} (hx : Inside s state x) (hg : ∀ b, Advances n (state b) (g b)) :
    Advances n s (x >>= g) := by
  intro t ht
  obtain ⟨b, hb, ht⟩ := bind_ok.mp ht
  rw [hg b t ht, nextPc, (hx.1 b hb).pc, nextPc]

theorem read_advances (o : Operand) {g : Byte × State → State} (s : State)
    (hg : ∀ b, (g b).pc = nextPc (operandSize o) b.2) :
    Advances (operandSize o) s (readOperand o s >>= fun b => .ok (g b)) :=
  .bind (readOperand_inside o s) fun b => .ok (hg b)

theorem opModify_advances (value : Byte → Bool → Byte) (flags : Byte → Byte → Flags → Flags) (o : Operand) (s : State) :
    Advances (operandSize o) s (opModify value flags o s) :=
  .bind (resolve_inside o s) fun b => .bind (load_inside b.1.loc b.2) fun c =>
    .bind (store_inside b.1.loc _ c.2) fun _ => .ok rfl

theorem opStore_advances (reg : State → Byte) (m : MemOperand) (s : State) :
    Advances (operandSize (.memory m)) s (opStore reg m s) :=
  .bind (effAddr_inside m s) fun b => .bind (memWrite_inside _ _ b.2) fun _ => .ok rfl

theorem diagnosed_advances (op : Byte) (o : Operand) (s : State) : Advances (operandSize o) s (diagnosed op o s) :=
  .bind (resolve_inside o s) fun _ => .ok rfl

/-- A branch not taken ends after its two bytes (R130). -/
theorem opBranch_untaken_pc (off : Byte) (s : State) : (opBranch false off s).pc = nextPc 1 s := by
  rw [nextPc, BitVec.add_assoc]
  rfl

/-- PC after every instruction that computes no override (R89). -/
theorem perform_advances {i : Instr} {s : State} (hi : i.mnemonic ∉ [.jmp, .jsr, .rts, .brk, .rti])
    (hb : branchTaken i.mnemonic s.flags ≠ some true) : Advances (operandSize i.operand) s (perform i s) := by
  have implicit := implicit_operand i
  have memory := memory_operand i
  have relative := relative_operand i s.flags
  have untaken : (branchTaken i.mnemonic s.flags).getD false = false := by
    cases ht : branchTaken i.mnemonic s.flags with
    | none => rfl
    | some taken => simpa [ht] using hb
  unfold perform
  generalize i.mnemonic = m at *
  cases m with
  | adc | sbc | cmp | cpx | cpy | and | ora | eor | bit | lda | ldx | ldy => exact read_advances _ s fun _ => rfl
  | asl | lsr | rol | ror | inc | dec => exact opModify_advances _ _ _ s
  | sta | stx | sty =>
    obtain ⟨m, hm⟩ := memory (by simp)
    rw [hm]
    exact opStore_advances _ m s
  | jmp | jsr | rts | brk | rti => simp at hi
  | pha | php =>
    rw [implicit (by simp)]
    exact .bind (push_inside _ s) fun _ => .ok rfl
  | pla | plp =>
    rw [implicit (by simp)]
    exact .bind (pull_inside s) fun _ => .ok rfl
  | bcc | bcs | beq | bne | bmi | bpl | bvc | bvs =>
    obtain ⟨off, hoff⟩ := relative rfl
    rw [hoff]
    exact .ok (untaken ▸ opBranch_untaken_pc off s)
  | inx | iny | dex | dey | tax | tay | txa | tya | tsx | txs | nop | clc | sec | cli | sei | cld | sed | clv =>
    rw [implicit (by simp)]
    exact .ok rfl
  | jam | slo | nopUndoc | anc | rla | sre | alr | rra | arr | sax | xaa | ahx | tas | shy | shx | lax | las | dcp | axs
  | isc | sbcUndoc => exact diagnosed_advances _ _ s

/-- Settles O53: what an instruction computes without an override advances by its operand bytes. -/
theorem onlyOverridesMovePc : Obligations.OnlyOverridesMovePc := by
  intro i s t h hi hb
  rw [exec_eq_perform, finish_eq_next] at h
  rw [pcAfter_eq]
  exact perform_advances hi hb t h

/-! ### Completion -/

/-- An instruction faults only at an address that leads nowhere. -/
theorem exec_completes_of_allAnswer (i : Instr) {s : State} (hs : AllAnswer s.platform) : ∃ t, exec i s = .next t := by
  cases h : exec i s with
  | next t => exact ⟨t, rfl⟩
  | fault f =>
    obtain ⟨u, addr, -, hn, -⟩ := exec_fault h
    exact absurd hn (hs addr)
  | refused q => exact absurd h (exec_ne_refused i s q)

/-- Settles O52: a fault needs an address that leads nowhere, and an instruction that is no branch takes none. -/
theorem everyInstructionCompletes : Obligations.EveryInstructionCompletes := by
  intro i s hs
  obtain ⟨t, ht⟩ := exec_completes_of_allAnswer i hs
  refine ⟨t, ht, fun hi => onlyOverridesMovePc i s t ht ?_ ?_⟩
  · simp only [List.mem_cons, not_or] at hi ⊢
    tauto
  · generalize i.mnemonic = m at hi ⊢
    cases m with
    | bcc | bcs | beq | bne | bmi | bpl | bvc | bvs => simp at hi
    | _ => nofun

end Sys2Proof.Machine
end

section
/-! The frame of memory over all instructions (40_addressing.md R86, R87; 20_memory.md R31, R32; O56): one table of the
addresses an instruction stores to, that every completed instruction keeps to. -/

namespace Sys2Proof.Machine

/-! ### Changing memory at given addresses only -/

/-- `t` differs from `s` in no byte but those at addresses that lead where an address of `l` leads; where `l` is empty,
in no cell at all. -/
structure StoresAt (l : List Addr) (s t : State) : Prop where
  platform : t.platform = s.platform
  mem : l = [] → t.mem = s.mem
  bytes : ∀ addr, (∀ a ∈ l, translateAddr s.platform addr ≠ translateAddr s.platform a) →
    inspectCell addr t = inspectCell addr s

theorem StoresAt.of_mem {s t : State} (hp : t.platform = s.platform) (hm : t.mem = s.mem) : StoresAt [] s t :=
  ⟨hp, fun _ => hm, fun _ _ => by simp only [inspectCell, hp, hm]⟩

theorem StoresAt.trans {l l' : List Addr} {s t u : State} (h : StoresAt l s t) (k : StoresAt l' t u) :
    StoresAt (l ++ l') s u := by
  refine ⟨k.platform.trans h.platform, fun hl => ?_, fun addr ha => ?_⟩
  · obtain ⟨hl, hl'⟩ := List.append_eq_nil_iff.mp hl
    rw [k.mem hl', h.mem hl]
  · rw [k.bytes addr fun a hm => h.platform ▸ ha a (List.mem_append_right l hm),
      h.bytes addr fun a hm => ha a (List.mem_append_left l' hm)]

/-- Reads before and register updates after leave the list as it is. -/
theorem StoresAt.between {l : List Addr} {s t u v : State} (h : StoresAt l t u) (hs : StoresAt [] s t)
    (hv : StoresAt [] u v) : StoresAt l s v := by
  simpa using (hs.trans h).trans hv

theorem Observed.storesAt {s t : State} (h : Observed s t) : StoresAt [] s t := .of_mem h.platform h.mem

theorem memWrite_storesAt {addr : Addr} {v : Byte} {s t : State} (h : memWrite addr v s = .ok t) :
    StoresAt [addr] s t := by
  obtain ⟨hp, hf⟩ := memWrite_frame h
  exact ⟨hp, nofun, fun a ha => hf a (ha addr (.head _))⟩

/-! ### The addresses an instruction stores to -/

/-- The address of a location that is a memory cell. -/
def locAddrs : Loc → List Addr
  | .acc | .imm _ => []
  | .mem addr => [addr]

/-- The effective address of an operand, where it has one. -/
def operandAddrs (o : Operand) (s : State) : List Addr :=
  match resolve o s with
  | .ok (r, _) => locAddrs r.loc
  | .error _ => []

/-- The stack addresses of `n` pushes in order (R87). -/
def pushAddrs (n : Nat) (s : State) : List Addr := (List.range n).map fun k => stackAddr (s.sp - BitVec.ofNat 8 k)

/-- The addresses that an instruction stores to. -/
def storeAddrs (i : Instr) (s : State) : List Addr :=
  match i.mnemonic with
  | .sta | .stx | .sty | .asl | .lsr | .rol | .ror | .inc | .dec => operandAddrs i.operand s
  | .pha | .php => pushAddrs 1 s
  | .jsr => pushAddrs 2 s
  | .brk => pushAddrs 3 s
  | _ => []

theorem operandAddrs_of_resolve {o : Operand} {s u : State} {r : Resolved} (h : resolve o s = .ok (r, u)) :
    operandAddrs o s = locAddrs r.loc := by
  simp [operandAddrs, h]

theorem operandAddrs_of_effAddr {m : MemOperand} {s u : State} {e : EffAddr} (h : effAddr m s = .ok (e, u)) :
    operandAddrs (.memory m) s = [e.addr] := by
  have hr : resolve (.memory m) s = .ok (⟨.mem e.addr, e.cross⟩, u) := bind_ok.mpr ⟨_, h, rfl⟩
  rw [operandAddrs_of_resolve hr, locAddrs]

theorem pushAddrs_one (s : State) : pushAddrs 1 s = [stackAddr s.sp] := by simp [pushAddrs]

theorem pushAddrs_two (s : State) : pushAddrs 2 s = [stackAddr s.sp, stackAddr (s.sp - 1)] := by
  simp [pushAddrs, List.range_succ]

theorem pushAddrs_three (s : State) :
    pushAddrs 3 s = [stackAddr s.sp, stackAddr (s.sp - 1), stackAddr (s.sp - 2)] := by
  simp [pushAddrs, List.range_succ]

/-! ### What the operations store -/

theorem store_storesAt {l : Loc} {v : Byte} {s t : State} (h : store l v s = .ok t) : StoresAt (locAddrs l) s t := by
  cases l with
  | mem addr => exact memWrite_storesAt h
  | _ =>
    cases h
    exact .of_mem rfl rfl

theorem push_storesAt {v : Byte} {s t : State} (h : push v s = .ok t) : StoresAt (pushAddrs 1 s) s t := by
  obtain ⟨u, hu, rfl⟩ := push_ok h
  rw [pushAddrs_one]
  exact (memWrite_storesAt hu).between (.of_mem rfl rfl) (.of_mem rfl rfl)

theorem pushWord_storesAt {v : Addr} {s t : State} (h : pushWord v s = .ok t) : StoresAt (pushAddrs 2 s) s t := by
  obtain ⟨u, w, hu, hw, rfl⟩ := pushWord_ok h
  rw [pushAddrs_two]
  exact (memWrite_storesAt hu).trans ((memWrite_storesAt hw).between (.of_mem rfl rfl) (.of_mem rfl rfl))

theorem takeTrap_storesAt {ret vector : Addr} {b4 : Bool} {s t : State} (h : takeTrap ret vector b4 s = .ok t) :
    StoresAt (pushAddrs 3 s) s t := by
  obtain ⟨u, w, x, v, y, hu, hw, rfl, hy, rfl⟩ := takeTrap_ok h
  have hword := pushWord_storesAt hu
  have ho := readVector_observed hy
  rw [pushAddrs_two] at hword
  rw [pushAddrs_three]
  exact hword.trans ((memWrite_storesAt hw).between (.of_mem rfl rfl) (.of_mem ho.platform ho.mem))

theorem pull_storesAt {v : Byte} {s t : State} (h : pull s = .ok (v, t)) : StoresAt [] s t :=
  .of_mem (pull_observed h).platform (pull_observed h).mem

theorem pullWord_storesAt {v : Addr} {s t : State} (h : pullWord s = .ok (v, t)) : StoresAt [] s t := by
  obtain ⟨-, -, -, -, -, -, ho⟩ := pullWord_ok h
  exact .of_mem ho.platform ho.mem

/-! ### The rules of the instructions -/

/-- Reading an operand and updating registers stores nothing. -/
theorem read_storesAt {o : Operand} {s t : State} {g : Byte × State → State}
    (h : (readOperand o s >>= fun b => .ok (g b)) = .ok t) (hg : ∀ b, StoresAt [] b.2 (g b)) : StoresAt [] s t := by
  obtain ⟨m, u, -, ho, rfl⟩ := read_ok h
  exact ho.storesAt.trans (hg (m, u))

theorem opModify_storesAt {value : Byte → Bool → Byte} {flags : Byte → Byte → Flags → Flags} {o : Operand}
    {s t : State} (h : opModify value flags o s = .ok t) : StoresAt (operandAddrs o s) s t := by
  obtain ⟨r, u, m, v, w, hr, -, ho, hw, rfl⟩ := opModify_ok h
  rw [operandAddrs_of_resolve hr]
  exact (store_storesAt hw).between ho.storesAt (.of_mem rfl rfl)

theorem opStore_storesAt {reg : State → Byte} {m : MemOperand} {s t : State} (h : opStore reg m s = .ok t) :
    StoresAt (operandAddrs (.memory m) s) s t := by
  obtain ⟨e, u, w, he, ho, hw, rfl⟩ := opStore_ok h
  rw [operandAddrs_of_effAddr he]
  exact (memWrite_storesAt hw).between ho.storesAt (.of_mem rfl rfl)

theorem opJmp_storesAt {m : MemOperand} {s t : State} (h : opJmp m s = .ok t) : StoresAt [] s t := by
  obtain ⟨⟨e, u⟩, hu, h⟩ := bind_ok.mp h
  cases h
  exact (effAddr_observed hu).storesAt.trans (.of_mem rfl rfl)

theorem opJsr_storesAt {m : MemOperand} {s t : State} (h : opJsr m s = .ok t) : StoresAt (pushAddrs 2 s) s t := by
  obtain ⟨⟨e, u⟩, hu, h⟩ := bind_ok.mp h
  obtain ⟨w, hw, h⟩ := bind_ok.mp h
  cases h
  have ho := effAddr_observed hu
  have hsp : pushAddrs 2 u = pushAddrs 2 s := by rw [pushAddrs, ho.sp, pushAddrs]
  exact hsp ▸ (pushWord_storesAt hw).between ho.storesAt (.of_mem rfl rfl)

theorem push_next_storesAt {v : Byte} {s t : State} (h : (push v s >>= fun u => .ok (next 0 u)) = .ok t) :
    StoresAt (pushAddrs 1 s) s t := by
  obtain ⟨u, hu, h⟩ := bind_ok.mp h
  cases h
  exact (push_storesAt hu).between (.of_mem rfl rfl) (.of_mem rfl rfl)

/-- Pulling a byte and updating registers stores nothing. -/
theorem pull_next_storesAt {s t : State} {g : Byte × State → State} (h : (pull s >>= fun b => .ok (g b)) = .ok t)
    (hg : ∀ b, StoresAt [] b.2 (g b)) : StoresAt [] s t := by
  obtain ⟨b, hb, h⟩ := bind_ok.mp h
  cases h
  exact (pull_storesAt hb).trans (hg b)

theorem opRts_storesAt {s t : State} (h : opRts s = .ok t) : StoresAt [] s t := by
  obtain ⟨⟨v, u⟩, hu, h⟩ := bind_ok.mp h
  cases h
  exact (pullWord_storesAt hu).trans (.of_mem rfl rfl)

theorem returnFromTrap_storesAt {s t : State} (h : returnFromTrap s = .ok t) : StoresAt [] s t := by
  obtain ⟨v, u, pc, w, hu, hw, rfl⟩ := returnFromTrap_ok h
  have hp := pull_storesAt hu
  have hpw := pullWord_storesAt hw
  exact .of_mem (hpw.platform.trans hp.platform) ((hpw.mem rfl).trans (hp.mem rfl))

theorem diagnosed_storesAt {op : Byte} {o : Operand} {s t : State} (h : diagnosed op o s = .ok t) :
    StoresAt [] s t := by
  obtain ⟨r, u, -, ho, rfl⟩ := diagnosed_ok h
  exact ho.storesAt.trans (.of_mem rfl rfl)

theorem withOffset_branch_storesAt (o : Operand) (taken : Bool) (s : State) :
    StoresAt [] s (withOffset o (opBranch taken · s) s) := by
  cases o with
  | relative off => cases taken <;> exact .of_mem rfl rfl
  | _ => exact .of_mem rfl rfl

/-- What a completed instruction stores, said once for all 256: nothing outside the table. -/
theorem perform_storesAt {i : Instr} {s t : State} (h : perform i s = .ok t) : StoresAt (storeAddrs i s) s t := by
  have memory := memory_operand i
  unfold perform at h
  unfold storeAddrs
  generalize i.mnemonic = m at *
  cases m with
  | adc | sbc | cmp | cpx | cpy | and | ora | eor | bit | lda | ldx | ldy =>
    exact read_storesAt h fun _ => .of_mem rfl rfl
  | asl | lsr | rol | ror | inc | dec => exact opModify_storesAt h
  | sta | stx | sty =>
    obtain ⟨m, hm⟩ := memory (by simp)
    rw [hm] at h ⊢
    exact opStore_storesAt h
  | jmp =>
    obtain ⟨m, hm⟩ := memory (by simp)
    rw [hm] at h
    exact opJmp_storesAt h
  | jsr =>
    obtain ⟨m, hm⟩ := memory (by simp)
    rw [hm] at h
    exact opJsr_storesAt h
  | rts => exact opRts_storesAt h
  | pha | php => exact push_next_storesAt h
  | pla | plp => exact pull_next_storesAt h fun _ => .of_mem rfl rfl
  | brk => exact takeTrap_storesAt h
  | rti => exact returnFromTrap_storesAt h
  | bcc | bcs | beq | bne | bmi | bpl | bvc | bvs =>
    cases h
    exact withOffset_branch_storesAt _ _ s
  | inx | iny | dex | dey | tax | tay | txa | tya | tsx | txs | nop | clc | sec | cli | sei | cld | sed | clv =>
    cases h
    exact .of_mem rfl rfl
  | jam | slo | nopUndoc | anc | rla | sre | alr | rra | arr | sax | xaa | ahx | tas | shy | shx | lax | las | dcp | axs
  | isc | sbcUndoc => exact diagnosed_storesAt h

/-! ### Reading the table -/

theorem storeAddrs_of_operand {i : Instr} (s : State)
    (hi : i.mnemonic ∈ [.sta, .stx, .sty, .asl, .lsr, .rol, .ror, .inc, .dec]) :
    storeAddrs i s = operandAddrs i.operand s := by
  unfold storeAddrs
  generalize i.mnemonic = m at hi
  cases m with
  | sta | stx | sty | asl | lsr | rol | ror | inc | dec => rfl
  | _ => simp at hi

theorem storeAddrs_of_none {i : Instr} (s : State)
    (hi : i.mnemonic ∉ [.sta, .stx, .sty, .asl, .lsr, .rol, .ror, .inc, .dec, .pha, .php, .jsr, .brk]) :
    storeAddrs i s = [] := by
  unfold storeAddrs
  generalize i.mnemonic = m at hi
  cases m with
  | sta | stx | sty | asl | lsr | rol | ror | inc | dec | pha | php | jsr | brk => simp at hi
  | _ => rfl

/-- The instructions on A are the shifts and rotates (R74). -/
theorem accumulator_mnemonic {i : Instr} (ho : i.operand = .accumulator) : i.mnemonic ∈ [.asl, .lsr, .rol, .ror] := by
  cases i with
  | aslAcc | lsrAcc | rolAcc | rorAcc => simp [Instr.mnemonic]
  | _ => cases ho

theorem storeAddrs_of_accumulator {i : Instr} (s : State) (ho : i.operand = .accumulator) : storeAddrs i s = [] := by
  have shifts : [Mnemonic.asl, .lsr, .rol, .ror] ⊆ [.sta, .stx, .sty, .asl, .lsr, .rol, .ror, .inc, .dec] := by simp
  rw [storeAddrs_of_operand s (shifts (accumulator_mnemonic ho)), ho]
  rfl

theorem storeAddrs_of_pushes {i : Instr} (s : State) {n : Nat}
    (hi : i.mnemonic ∈ [.pha, .php] ∧ n = 1 ∨ i.mnemonic = .jsr ∧ n = 2 ∨ i.mnemonic = .brk ∧ n = 3) :
    storeAddrs i s = pushAddrs n s := by
  unfold storeAddrs
  obtain ⟨hm, rfl⟩ | ⟨hm, rfl⟩ | ⟨hm, rfl⟩ := hi
  · obtain hm | hm : i.mnemonic = .pha ∨ i.mnemonic = .php := by simpa using hm
    · rw [hm]
    · rw [hm]
  · rw [hm]
  · rw [hm]

/-- Settles O56: the table of addresses, read for the instructions that store nothing, those that store to their operand
and those that push. -/
theorem memoryChangesOnlyWhereStored : Obligations.MemoryChangesOnlyWhereStored := by
  intro i s t h
  have hs := perform_storesAt (finish_eq_next.mp (exec_eq_perform i s ▸ h))
  refine ⟨fun hi => hs.mem ?_, fun m e u hi ho he addr ha => hs.bytes addr ?_, fun n hi addr ha => hs.bytes addr ?_⟩
  · exact hi.elim (storeAddrs_of_none s) (storeAddrs_of_accumulator s)
  · rw [storeAddrs_of_operand s hi, ho, operandAddrs_of_effAddr he]
    simpa using ha
  · rw [storeAddrs_of_pushes s hi, pushAddrs]
    simpa [stackAddr] using ha

end Sys2Proof.Machine
end

section
/-! The fetch of an instruction whose bytes stand in storage at PC (40_addressing.md R70, R71; O6). -/

namespace Sys2Proof.Machine

/-- The reads of consecutive bytes from `addr` on, modulo 2^16. -/
def fetchReads (addr : Addr) (bytes : List Byte) : List Transaction :=
  bytes.mapIdx fun k b => .read (addr + BitVec.ofNat 16 k) b

/-- The storage cells from `addr` on, modulo 2^16, hold the bytes. -/
def Holds (s : State) (addr : Addr) (bytes : List Byte) : Prop :=
  ∀ k (h : k < bytes.length), inspectCell (addr + BitVec.ofNat 16 k) s = some bytes[k]

/-- Reading a byte that stands in storage, after other reads. -/
theorem Holds.memRead {s t : State} {addr : Addr} {bytes : List Byte} (h : Holds s addr bytes) (ht : Observed s t)
    {k : Nat} (hk : k < bytes.length) :
    Machine.memRead (addr + BitVec.ofNat 16 k) t =
      .ok (bytes[k], t.log (.read (addr + BitVec.ofNat 16 k) bytes[k])) :=
  memRead_of_inspectCell ((ht.inspectCell _).trans (h k hk))

/-- The fetch reads the opcode and the operand bytes of its mode, and nothing else (R71). -/
theorem fetch_of_holds {s : State} {op : Byte} {ops : List Byte} (hlen : ops.length = operandCount op)
    (h : Holds s s.pc (op :: ops)) :
    fetch s = .ok (assembleList op ops, { s with trace := s.trace ++ fetchReads s.pc (op :: ops) }) := by
  have hle := operandCount_le op
  have h0 : memRead s.pc s = .ok (op, s.log (.read s.pc op)) := by
    simpa using memRead_of_inspectCell (h 0 (Nat.succ_pos _))
  refine bind_ok.mpr ⟨_, h0, ?_⟩
  match ops with
  | [] =>
    simp [← hlen, assembleList, fetchReads, State.log]
  | [b1] =>
    have h1 := h.memRead (.log s (.read s.pc op)) (k := 1) (by simp)
    simp only [← hlen]
    exact bind_ok.mpr ⟨_, h1, by simp [assembleList, fetchReads, State.log]⟩
  | [b1, b2] =>
    have h1 := h.memRead (.log s (.read s.pc op)) (k := 1) (by simp)
    have h2 := h.memRead ((Observed.log s (.read s.pc op)).trans (memRead_observed h1)) (k := 2) (by simp)
    simp only [← hlen]
    exact bind_ok.mpr ⟨_, h1, bind_ok.mpr ⟨_, h2, by simp [assembleList, fetchReads, State.log]⟩⟩
  | _ :: _ :: _ :: _ =>
    simp only [List.length_cons] at hlen
    omega

/-- Settles O6: the fetch assembles the instruction from its own bytes. -/
theorem stepRunsDecodedInstruction : Obligations.StepRunsDecodedInstruction := by
  intro s i h
  have hf := fetch_of_holds (s := s.beginStep) (length_operand_bytes i) h
  rw [assembleList_opcode_bytes] at hf
  rw [step, hf]
  rfl

end Sys2Proof.Machine
end

section
/-! Arithmetic and compare (41_arithmetic_compare.md R90 to R96): the rules that read one byte and write registers and
flags, and what the sum, the carry and the overflow of an addition are as numbers (O25 to O29). -/

namespace Sys2Proof.Machine

/-! ### The rules that read their operand -/

/-- An instruction whose rule reads its operand, computes `g` and ends after its bytes, where `g` does what `post` says
in every state that a read may leave. -/
theorem readsThen_of_perform {i : Instr} {s : State} {g post : Byte → State → State}
    (hi : perform i s = readOperand i.operand s >>= fun b => .ok (next (operandSize i.operand) (g b.1 b.2)))
    (hpc : ∀ m u, (g m u).pc = u.pc) (hg : ∀ m u, Observed s u → g m u = post m u) : ReadsThen i s post := by
  refine ⟨fun m u h => ?_, fun f h => ?_⟩
  · have ho := readOperand_observed h
    have hend : nextPc (operandSize i.operand) (g m u) = pcAfter i s := by rw [pcAfter_eq, nextPc, hpc, ho.pc, nextPc]
    refine ⟨?_, ho⟩
    rw [exec_eq_perform, finish_eq_next, hi, ← hg m u ho, ← hend]
    exact bind_ok.mpr ⟨(m, u), h, rfl⟩
  · refine ⟨?_, (readOperand_error h).nothingCommitted⟩
    rw [exec_eq_perform, finish_eq_fault, hi]
    exact bind_error.mpr (.inl h)

/-! ### The sum of an addition with carry -/

section
variable (a m : Byte) (c : Bool) (f : Flags)

theorem sum9_eq_add_ite : sum9 a m c = a.setWidth 9 + m.setWidth 9 + (if c then 1 else 0) := by
  cases c <;> rfl

/-- Nine bits hold the sum of two bytes and a carry. -/
theorem sum9_toNat : (sum9 a m c).toNat = a.toNat + m.toNat + c.toNat := by
  have hc := c.toNat_le
  simp only [sum9, BitVec.toNat_add, BitVec.toNat_setWidth, BitVec.toNat_ofBool]
  omega

@[simp] theorem addValue_toNat : (addValue a m c).toNat = (a.toNat + m.toNat + c.toNat) % 256 := by
  rw [addValue, BitVec.toNat_setWidth, sum9_toNat]

/-- The highest bit says that the number is in the upper half. -/
theorem getLsbD_highest_iff {w : Nat} (v : BitVec (w + 1)) : v.getLsbD w = true ↔ 2 ^ w ≤ v.toNat := by
  have h := v.msb_eq_decide
  rw [BitVec.msb_eq_getLsbD_last, Nat.add_sub_cancel] at h
  rw [h, decide_eq_true_iff]

theorem getLsbD_seven_iff (v : Byte) : v.getLsbD 7 = true ↔ 128 ≤ v.toNat := getLsbD_highest_iff v

/-- Carry is the unsigned overflow (R95). -/
theorem addFlags_c_iff : (addFlags a m f).c = true ↔ 256 ≤ a.toNat + m.toNat + f.c.toNat := by
  rw [← sum9_toNat]
  exact getLsbD_highest_iff (sum9 a m f.c)

/-- Overflow: the operands have one sign and the result has the other (R90). -/
theorem addFlags_v_iff_signs : (addFlags a m f).v = true ↔
    (128 ≤ a.toNat ↔ 128 ≤ m.toNat) ∧ ¬(128 ≤ a.toNat ↔ 128 ≤ (addValue a m f.c).toNat) := by
  simp only [← getLsbD_seven_iff]
  simp [addFlags, Flags.setNZ]

/-- Overflow is the signed overflow (R95). -/
theorem addFlags_v_iff : (addFlags a m f).v = true ↔
    a.toInt + m.toInt + f.c.toNat < -128 ∨ 127 < a.toInt + m.toInt + f.c.toNat := by
  have hc := f.c.toNat_le
  rw [addFlags_v_iff_signs, addValue_toNat, BitVec.toInt_eq_toNat_cond, BitVec.toInt_eq_toNat_cond]
  omega

theorem addFlags_n_iff : (addFlags a m f).n = true ↔ 128 ≤ (addValue a m f.c).toNat :=
  getLsbD_seven_iff _

theorem addFlags_z_iff : (addFlags a m f).z = true ↔ addValue a m f.c = 0 :=
  beq_iff_eq

/-- Adding the complement with carry subtracts (R96). -/
theorem addValue_complement_true : addValue a (~~~m) true = a - m := by
  apply BitVec.eq_of_toNat_eq
  simp only [addValue_toNat, BitVec.toNat_not, BitVec.toNat_sub, Bool.toNat_true]
  omega

/-- Adding the complement without carry subtracts one more (R96). -/
theorem addValue_complement_false : addValue a (~~~m) false = a - m - 1 := by
  have hone : (1 : Byte).toNat = 1 := rfl
  apply BitVec.eq_of_toNat_eq
  simp only [addValue_toNat, BitVec.toNat_not, BitVec.toNat_sub, hone, Bool.toNat_false]
  omega

/-- In a subtraction Carry means that nothing is borrowed (R96). -/
theorem addFlags_complement_c_iff : (addFlags a (~~~m) f).c = true ↔ m.toNat + (1 - f.c.toNat) ≤ a.toNat := by
  have hc := f.c.toNat_le
  rw [addFlags_c_iff, BitVec.toNat_not]
  omega

end

/-! ### ADC and SBC -/

/-- What ADC does with its operand byte (R90). -/
def addToA (m : Byte) (s : State) : State :=
  (s.setA (addValue s.a m s.flags.c)).setFlags (addFlags s.a m s.flags)

theorem opAdc_eq (o : Operand) (s : State) :
    opAdc o s = readOperand o s >>= fun b => .ok (next (operandSize o) (addToA b.1 b.2)) := rfl

theorem opSbc_eq (o : Operand) (s : State) :
    opSbc o s = readOperand o s >>= fun b => .ok (next (operandSize o) (addToA (~~~b.1) b.2)) := rfl

theorem exec_adcImm (m : Byte) (s : State) : exec (.adcImm m) s = .next (next 1 (addToA m s)) := rfl

theorem exec_sbcImm (m : Byte) (s : State) : exec (.sbcImm m) s = .next (next 1 (addToA (~~~m) s)) := rfl

/-- The addition after a read, with the flags spelled out as R90 does. -/
theorem addToA_of_observed {s u : State} (h : Observed s u) (m : Byte) :
    addToA m u =
      let sum : BitVec 9 := s.a.setWidth 9 + m.setWidth 9 + (if s.flags.c then 1 else 0)
      let r : Byte := sum.setWidth 8
      { u with
        a := r
        flags := { s.flags with
          c := sum.getLsbD 8
          v := (~~~(s.a ^^^ m) &&& (s.a ^^^ r)).getLsbD 7
          n := r.getLsbD 7
          z := decide (r = 0) } } := by
  rw [addToA, h.a, h.flags, ← sum9_eq_add_ite]
  rfl

/-- Settles O25: the operand is read, then added. -/
theorem adcAddsWithCarry : Obligations.AdcAddsWithCarry := by
  intro i s hi
  have hp : perform i s = opAdc i.operand s := by simp only [perform, hi]
  exact readsThen_of_perform (hp.trans (opAdc_eq _ s)) (fun _ _ => rfl) fun m u ho => addToA_of_observed ho m

/-- Settles O26: the complement of the operand is added, and complementing both sides of the sign test cancels. -/
theorem sbcAddsTheComplement : Obligations.SbcAddsTheComplement := by
  intro i s hi
  have hp : perform i s = opSbc i.operand s := by simp only [perform, hi]
  refine readsThen_of_perform (g := fun m => addToA (~~~m)) (hp.trans (opSbc_eq _ s)) (fun _ _ => rfl)
    fun m u ho => ?_
  have hsign : ~~~(s.a ^^^ ~~~m) = s.a ^^^ m := by rw [BitVec.not_xor_right, BitVec.not_not]
  rw [addToA_of_observed ho, hsign]

/-- Settles O27: both instructions add the same byte; the sum of a complement is the difference. -/
theorem subtractionLaw : Obligations.SubtractionLaw := by
  refine fun m s => ⟨rfl, _, exec_sbcImm m s, fun hc => ?_, fun hc => ?_, addFlags_complement_c_iff s.a m s.flags⟩
  · show addValue s.a (~~~m) s.flags.c = _
    rw [hc, addValue_complement_true]
  · show addValue s.a (~~~m) s.flags.c = _
    rw [hc, addValue_complement_false]

/-- Settles O28: the number each flag of the addition stands for. -/
theorem addFlagsMeanOverflow : Obligations.AddFlagsMeanOverflow := fun m s =>
  ⟨_, exec_adcImm m s, addValue_toNat s.a m s.flags.c, addFlags_c_iff s.a m s.flags, addFlags_v_iff s.a m s.flags,
    addFlags_n_iff s.a m s.flags, addFlags_z_iff s.a m s.flags⟩

/-! ### Compares -/

/-- The common rule of the compares, for a register that a read leaves as it was (R92 to R94). -/
theorem readsThen_of_compare {i : Instr} {s : State} {reg : State → Byte}
    (hi : perform i s = opCompare reg i.operand s) (hreg : ∀ u, Observed s u → reg u = reg s) :
    ReadsThen i s fun m u => { u with flags := { s.flags with
      c := decide (m.toNat ≤ (reg s).toNat), z := decide (reg s = m), n := (reg s - m).getLsbD 7 } } := by
  refine readsThen_of_perform (g := fun m u => u.setFlags (compareFlags (reg u) m u.flags)) hi (fun _ _ => rfl)
    fun m u ho => ?_
  simp only [hreg u ho, ho.flags]
  rfl

/-- Settles O29: the three mnemonics are the common rule, for A, X and Y. -/
theorem comparesWriteOnlyFlags : Obligations.ComparesWriteOnlyFlags := by
  rintro i s reg (⟨hi, rfl⟩ | ⟨hi, rfl⟩ | ⟨hi, rfl⟩)
  · exact readsThen_of_compare (reg := (·.a)) (by simp only [perform, hi, opCmp]) fun _ ho => ho.a
  · exact readsThen_of_compare (reg := (·.x)) (by simp only [perform, hi, opCpx]) fun _ ho => ho.x
  · exact readsThen_of_compare (reg := (·.y)) (by simp only [perform, hi, opCpy]) fun _ ho => ho.y

end Sys2Proof.Machine
end

section
/-! Logic, bit test, shifts and rotates (42_logic_shift_rotate.md R100 to R107): the rules that read one byte (O30,
O31), the common rule of the instructions that read, change and write one location, and what a rotate and a shift are as
numbers (O32, O33). -/

namespace Sys2Proof.Machine

/-! ### Logic and bit test -/

/-- The common rule of AND, ORA and EOR (R100 to R102). -/
theorem readsThen_of_logic {i : Instr} {s : State} {f : Byte → Byte → Byte}
    (hi : perform i s = opLogic f i.operand s) :
    ReadsThen i s fun m u =>
      { u with
        a := f s.a m
        flags := { s.flags with n := (f s.a m).getLsbD 7, z := decide (f s.a m = 0) } } := by
  refine readsThen_of_perform (g := fun m u => (u.setA (f u.a m)).setFlags (u.flags.setNZ (f u.a m))) hi
    (fun _ _ => rfl) fun m u ho => ?_
  simp only [ho.a, ho.flags]
  rfl

/-- Settles O30: the three mnemonics are the common rule, each with its function. -/
theorem logicWritesAccumulator : Obligations.LogicWritesAccumulator := by
  rintro i s f (⟨hi, rfl⟩ | ⟨hi, rfl⟩ | ⟨hi, rfl⟩)
  · exact readsThen_of_logic (by simp only [perform, hi, opAnd])
  · exact readsThen_of_logic (by simp only [perform, hi, opOra])
  · exact readsThen_of_logic (by simp only [perform, hi, opEor])

/-- Settles O31: the operand is read, then tested against the A that the read left. -/
theorem bitTestsOperand : Obligations.BitTestsOperand := by
  intro i s hi
  have hp : perform i s = opBit i.operand s := by simp only [perform, hi]
  refine readsThen_of_perform (g := fun m u => u.setFlags (bitFlags u.a m u.flags)) hp (fun _ _ => rfl)
    fun m u ho => ?_
  have hflags : bitFlags u.a m u.flags = bitFlags s.a m s.flags := by rw [ho.a, ho.flags]
  exact congrArg u.setFlags hflags

/-! ### Reading, changing and writing one location -/

section
variable {value : Byte → Bool → Byte} {flags : Byte → Byte → Flags → Flags} {m : MemOperand} {s u v w : State}
  {e : EffAddr} {b : Byte} {f : Fault}

/-- On A, no access is made. -/
theorem opModify_accumulator : opModify value flags .accumulator s =
    .ok (next 0 ((s.setA (value s.a s.flags.c)).setFlags (flags s.a (value s.a s.flags.c) s.flags))) := rfl

/-- On memory: the byte is read and written at one address, and the flags are those of the state before. -/
theorem opModify_memory (he : effAddr m s = .ok (e, u)) (hb : memRead e.addr u = .ok (b, v))
    (hw : memWrite e.addr (value b s.flags.c) v = .ok w) : opModify value flags (.memory m) s =
      .ok (next (operandSize (.memory m)) (w.setFlags (flags b (value b s.flags.c) s.flags))) := by
  have hv : v.flags = s.flags := ((effAddr_observed he).trans (memRead_observed hb)).flags
  obtain ⟨-, -, -, -, hf⟩ := memWrite_registers hw
  simp [opModify, resolve, load, store, he, hb, hv, hw, hf]

/-- A fault of the resolver is the fault of the instruction. -/
theorem opModify_of_effAddr_error (h : effAddr m s = .error f) : opModify value flags (.memory m) s = .error f := by
  simp [opModify, resolve, h]

/-- A fault of the read is the fault of the instruction. -/
theorem opModify_of_memRead_error (he : effAddr m s = .ok (e, u)) (h : memRead e.addr u = .error f) :
    opModify value flags (.memory m) s = .error f := by
  simp [opModify, resolve, load, he, h]

end

/-- An instruction with the common rule of R104 to R107, R110 and R111, the byte written and the flags spelled out for
the state in which it begins. -/
theorem modifiesThen_of_perform {i : Instr} {s : State} {value : Byte → Bool → Byte}
    {flags : Byte → Byte → Flags → Flags} {value' : Byte → Byte} {flags' : Byte → Flags}
    (hi : perform i s = opModify value flags i.operand s) (hv : ∀ b, value b s.flags.c = value' b)
    (hf : ∀ b, flags b (value b s.flags.c) s.flags = flags' b) : ModifiesThen i s value' flags' := by
  obtain rfl : (fun b => value b s.flags.c) = value' := funext hv
  obtain rfl : (fun b => flags b (value b s.flags.c) s.flags) = flags' := funext hf
  refine ⟨fun ho => ?acc, fun m ho => ⟨fun e u b v w he hb hw => ?written, fun e u b v he hb => ?answers,
    fun f he => ?address, fun e u f he hb => ?read⟩⟩
  case acc =>
    rw [exec_eq_perform, finish_eq_next, hi, ho, opModify_accumulator, pcAfter_eq, ho]
    rfl
  case written =>
    have hs := (effAddr_observed he).trans (memRead_observed hb)
    obtain ⟨ha, hx, hy, hsp, hfl⟩ := memWrite_registers hw
    have hpc : w.pc = s.pc := ((memWrite_inside _ _ _).1 _ hw).pc.trans hs.pc
    refine ⟨?_, ha.trans hs.a, hx.trans hs.x, hy.trans hs.y, hsp.trans hs.sp, hfl.trans hs.flags⟩
    rw [exec_eq_perform, finish_eq_next, hi, ho, opModify_memory he hb hw, pcAfter_eq, ho, nextPc, ← hpc]
    rfl
  case answers => exact memWrite_after_read hb (memRead_observed hb).platform _
  case address =>
    refine ⟨?_, (effAddr_error he).nothingCommitted⟩
    rw [exec_eq_perform, finish_eq_fault, hi, ho, opModify_of_effAddr_error he]
  case read =>
    refine ⟨?_, (ReadFault.after (effAddr_observed he) (memRead_readFault hb)).nothingCommitted⟩
    rw [exec_eq_perform, finish_eq_fault, hi, ho, opModify_of_memRead_error he hb]

/-! ### Rotates as numbers -/

section
variable (m : Byte) (c : Bool) (f : Flags)

/-- Shifting left doubles; the old Carry enters the bit left empty, so it is added (R106). -/
theorem rolValue_eq_ofNat : rolValue m c = BitVec.ofNat 8 (2 * m.toNat + c.toNat) := by
  have disjoint : (m <<< 1) &&& (BitVec.ofBool c).setWidth 8 = 0 := by
    ext k hk
    by_cases h : k = 0
    · simp [h]
    · simp [h]
  rw [rolValue, ← BitVec.add_eq_or_of_and_eq_zero _ _ disjoint]
  apply BitVec.eq_of_toNat_eq
  simp [Nat.shiftLeft_eq, Nat.mul_comm]

/-- Shifting right halves; the old Carry enters the bit left empty, so its weight is added (R107). -/
theorem rorValue_eq_ofNat : rorValue m c = BitVec.ofNat 8 (m.toNat / 2 + 128 * c.toNat) := by
  have disjoint : (m >>> 1) &&& ((BitVec.ofBool c).setWidth 8 <<< 7) = 0 := by
    ext k hk
    by_cases h : k < 7
    · simp [h]
    · simp [show 8 ≤ 1 + k by omega]
  rw [rorValue, ← BitVec.add_eq_or_of_and_eq_zero _ _ disjoint]
  apply BitVec.eq_of_toNat_eq
  simp [Nat.shiftLeft_eq, Nat.shiftRight_eq_div_pow, Nat.mul_comm]

/-- The zero flag of a byte given as a number. -/
theorem ofNat_beq_zero (k : Nat) : (BitVec.ofNat 8 k == 0) = decide (k % 256 = 0) := by
  rw [Bool.eq_iff_iff, beq_iff_eq, decide_eq_true_iff, ← BitVec.toNat_inj, BitVec.toNat_ofNat]
  rfl

/-- After a rotate left Carry is bit 7, and N is bit 6, which moved up (R106). -/
theorem leftFlags_rolValue : leftFlags m (rolValue m c) f =
    { f with
      c := decide (128 ≤ m.toNat), n := m.getLsbD 6, z := decide ((2 * m.toNat + c.toNat) % 256 = 0) } := by
  have hc : m.getLsbD 7 = decide (128 ≤ m.toNat) := by
    rw [Bool.eq_iff_iff, getLsbD_seven_iff, decide_eq_true_iff]
  have hn : (rolValue m c).getLsbD 7 = m.getLsbD 6 := by simp [rolValue]
  have hz : (rolValue m c == 0) = decide ((2 * m.toNat + c.toNat) % 256 = 0) := by
    rw [rolValue_eq_ofNat, ofNat_beq_zero]
  rw [leftFlags, Flags.setNZ, hc, hn, hz]

/-- After a rotate right Carry is bit 0, and N is the old Carry, which moved in (R107). -/
theorem rightFlags_rorValue : rightFlags m (rorValue m c) f =
    { f with c := decide (m.toNat % 2 = 1), n := c, z := decide (m.toNat / 2 + 128 * c.toNat = 0) } := by
  have hc : m.getLsbD 0 = decide (m.toNat % 2 = 1) := Nat.testBit_zero _
  have hn : (rorValue m c).getLsbD 7 = c := by simp [rorValue]
  have hz : (rorValue m c == 0) = decide (m.toNat / 2 + 128 * c.toNat = 0) := by
    have hm := m.isLt
    have hle := c.toNat_le
    have hlt : m.toNat / 2 + 128 * c.toNat < 256 := by omega
    rw [rorValue_eq_ofNat, ofNat_beq_zero, Nat.mod_eq_of_lt hlt]
  rw [rightFlags, Flags.setNZ, hc, hn, hz]

/-! ### Shifts: rotates with Carry clear -/

theorem aslValue_eq_rolValue : aslValue m c = rolValue m false := by simp [aslValue, rolValue]

theorem aslValue_eq_ofNat : aslValue m c = BitVec.ofNat 8 (2 * m.toNat) :=
  (aslValue_eq_rolValue m c).trans (rolValue_eq_ofNat m false)

theorem leftFlags_aslValue : leftFlags m (aslValue m c) f =
    { f with c := decide (128 ≤ m.toNat), n := m.getLsbD 6, z := decide (2 * m.toNat % 256 = 0) } := by
  rw [aslValue_eq_rolValue]
  exact leftFlags_rolValue m false f

theorem lsrValue_eq_rorValue : lsrValue m c = rorValue m false := by simp [lsrValue, rorValue]

theorem lsrValue_eq_ofNat : lsrValue m c = BitVec.ofNat 8 (m.toNat / 2) :=
  (lsrValue_eq_rorValue m c).trans (rorValue_eq_ofNat m false)

theorem rightFlags_lsrValue : rightFlags m (lsrValue m c) f =
    { f with c := decide (m.toNat % 2 = 1), n := false, z := decide (m.toNat / 2 = 0) } := by
  rw [lsrValue_eq_rorValue]
  exact rightFlags_rorValue m false f

end

/-- Settles O32: the byte that each shift writes, and its flags. -/
theorem shiftsMoveOneBit : Obligations.ShiftsMoveOneBit := by
  refine fun i s => ⟨fun hi => ?asl, fun hi => ?lsr⟩
  case asl =>
    have hp : perform i s = opAsl i.operand s := by simp only [perform, hi]
    exact modifiesThen_of_perform hp (aslValue_eq_ofNat · _) (leftFlags_aslValue · _ _)
  case lsr =>
    have hp : perform i s = opLsr i.operand s := by simp only [perform, hi]
    exact modifiesThen_of_perform hp (lsrValue_eq_ofNat · _) (rightFlags_lsrValue · _ _)

/-- Settles O33: the byte that each rotate writes, and its flags, for the Carry before. -/
theorem rotatesGoThroughCarry : Obligations.RotatesGoThroughCarry := by
  refine fun i s => ⟨fun hi => ?rol, fun hi => ?ror⟩
  case rol =>
    have hp : perform i s = opRol i.operand s := by simp only [perform, hi]
    exact modifiesThen_of_perform hp (rolValue_eq_ofNat · _) (leftFlags_rolValue · _ _)
  case ror =>
    have hp : perform i s = opRor i.operand s := by simp only [perform, hi]
    exact modifiesThen_of_perform hp (rorValue_eq_ofNat · _) (rightFlags_rorValue · _ _)

end Sys2Proof.Machine
end

section
/-! Increment, decrement, transfers, loads and stores (43_incdec_transfer_loadstore.md R110 to R127; O34 to O38): N and Z
of a stepped byte, the end that the register instructions share, and what a store leaves. -/

namespace Sys2Proof.Machine

/-! ### N and Z -/

section
variable (f : Flags) (v : Byte)

theorem setNZ_eq : f.setNZ v = { f with n := v.getLsbD 7, z := decide (v = 0) } := rfl

/-- A byte steps up to zero from the highest byte alone. -/
theorem byte_add_one_eq_zero_iff : v + 1 = 0 ↔ v = 0xFF := by bv_omega

theorem byte_sub_one_eq_zero_iff : v - 1 = 0 ↔ v = 0x01 := by bv_omega

/-- N and Z of a byte stepped up, Z said of the byte before (R110, R112, R113). -/
theorem setNZ_add_one : f.setNZ (v + 1) = { f with n := (v + 1).getLsbD 7, z := decide (v = 0xFF) } := by
  simp only [setNZ_eq, byte_add_one_eq_zero_iff]

/-- N and Z of a byte stepped down, Z said of the byte before (R111, R114, R115). -/
theorem setNZ_sub_one : f.setNZ (v - 1) = { f with n := (v - 1).getLsbD 7, z := decide (v = 0x01) } := by
  simp only [setNZ_eq, byte_sub_one_eq_zero_iff]

end

/-! ### INC and DEC -/

/-- Settles O34: the common rule of the instructions that read, change and write one location. -/
theorem memoryStepsWrapAndKeepCarry : Obligations.MemoryStepsWrapAndKeepCarry := by
  refine fun i s => ⟨fun hi => ?inc, fun hi => ?dec⟩
  case inc =>
    have hp : perform i s = opInc i.operand s := by simp only [perform, hi]
    exact modifiesThen_of_perform hp (fun _ => rfl) (setNZ_add_one s.flags ·)
  case dec =>
    have hp : perform i s = opDec i.operand s := by simp only [perform, hi]
    exact modifiesThen_of_perform hp (fun _ => rfl) (setNZ_sub_one s.flags ·)

/-! ### Index steps and transfers -/

/-- Where PC stands after an instruction of one byte (R89). -/
theorem nextPc_zero (s : State) : nextPc 0 s = s.pc + 1 := BitVec.add_zero _

/-- An instruction that leaves the registers of `r`, N and Z of `v`, and PC after its one byte (R112 to R120). -/
theorem exec_of_withNZ {i : Instr} {s : State} {v : Byte} {f : Flags} (r : State)
    (hi : perform i s = .ok (withNZ v r)) (hf : r.flags.setNZ v = f) :
    exec i s = .next { r with flags := f, pc := r.pc + 1 } := by
  rw [exec_eq_perform, finish_eq_next, hi, ← hf, ← nextPc_zero]
  rfl

/-- Settles O35: each of the four ends with N and Z of the stepped register. -/
theorem indexStepsWrap : Obligations.IndexStepsWrap := fun s =>
  ⟨exec_of_withNZ (s.setX (s.x + 1)) rfl (setNZ_add_one s.flags s.x),
    exec_of_withNZ (s.setY (s.y + 1)) rfl (setNZ_add_one s.flags s.y),
    exec_of_withNZ (s.setX (s.x - 1)) rfl (setNZ_sub_one s.flags s.x),
    exec_of_withNZ (s.setY (s.y - 1)) rfl (setNZ_sub_one s.flags s.y)⟩

/-- TXS writes S and no flag (R121). -/
theorem exec_txs (s : State) : exec .txs s = .next { s with sp := s.x, pc := s.pc + 1 } := by
  rw [exec_eq_perform, finish_eq_next, ← nextPc_zero]
  rfl

/-- Settles O36: five transfers end with N and Z of the register copied, TXS with PC alone. -/
theorem transfersCopy : Obligations.TransfersCopy := fun s =>
  ⟨exec_of_withNZ (s.setX s.a) rfl (setNZ_eq s.flags s.a), exec_of_withNZ (s.setY s.a) rfl (setNZ_eq s.flags s.a),
    exec_of_withNZ (s.setA s.x) rfl (setNZ_eq s.flags s.x), exec_of_withNZ (s.setA s.y) rfl (setNZ_eq s.flags s.y),
    exec_of_withNZ (s.setX s.sp) rfl (setNZ_eq s.flags s.sp), exec_txs s⟩

/-! ### Loads -/

/-- The common rule of the loads, for a register write that `post` says and that leaves PC (R122 to R124). -/
theorem readsThen_of_load {i : Instr} {s : State} {setReg : State → Byte → State}
    (hi : perform i s = opLoad setReg i.operand s) (hpc : ∀ u m, (setReg u m).pc = u.pc) :
    ReadsThen i s fun m u => { setReg u m with
      flags := { s.flags with n := m.getLsbD 7, z := decide (m = 0) } } := by
  refine readsThen_of_perform (g := fun m u => (setReg u m).setFlags (u.flags.setNZ m)) hi
    (fun m u => hpc u m) fun m u ho => ?_
  rw [ho.flags, setNZ_eq]
  rfl

/-- Settles O37: the three mnemonics are the common rule, for A, X and Y. -/
theorem loadsWriteRegister : Obligations.LoadsWriteRegister := fun i s =>
  ⟨fun hi => readsThen_of_load (setReg := State.setA) (by simp only [perform, hi, opLda]) fun _ _ => rfl,
    fun hi => readsThen_of_load (setReg := State.setX) (by simp only [perform, hi, opLdx]) fun _ _ => rfl,
    fun hi => readsThen_of_load (setReg := State.setY) (by simp only [perform, hi, opLdy]) fun _ _ => rfl⟩

/-! ### Stores -/

/-- The rule of a store is one write of its register, as it was before the resolver (R125 to R127). -/
theorem perform_store {i : Instr} {s : State} {m : MemOperand} {v : Byte} (ho : i.operand = .memory m)
    (hi : i.mnemonic = .sta ∧ v = s.a ∨ i.mnemonic = .stx ∧ v = s.x ∨ i.mnemonic = .sty ∧ v = s.y) :
    ∃ reg, perform i s = opStore reg m s ∧ ∀ u, Observed s u → reg u = v := by
  obtain ⟨hi, rfl⟩ | ⟨hi, rfl⟩ | ⟨hi, rfl⟩ := hi
  · exact ⟨(·.a), by simp only [perform, hi, ho, withAddress, opSta], fun _ h => h.a⟩
  · exact ⟨(·.x), by simp only [perform, hi, ho, withAddress, opStx], fun _ h => h.x⟩
  · exact ⟨(·.y), by simp only [perform, hi, ho, withAddress, opSty], fun _ h => h.y⟩

section
variable {reg : State → Byte} {m : MemOperand} {s u t : State} {e : EffAddr} {f : Fault}

/-- After the resolver, a store is one write. -/
theorem opStore_of_effAddr (he : effAddr m s = .ok (e, u)) :
    opStore reg m s = memWrite e.addr (reg u) u >>= fun w => .ok (next (operandSize (.memory m)) w) := by
  rw [opStore, he]
  rfl

/-- A fault of the resolver is the fault of the store. -/
theorem opStore_of_effAddr_error (h : effAddr m s = .error f) : opStore reg m s = .error f := by
  rw [opStore, h]
  rfl

theorem opStore_completes (he : effAddr m s = .ok (e, u)) :
    (∃ t, opStore reg m s = .ok t) ↔ Answers s.platform e.addr := by
  rw [opStore_of_effAddr he, ← (effAddr_observed he).platform]
  exact bind_ok_completes.trans memWrite_completes

/-- What a completed store leaves: the registers and flags, one write issued, and its byte where the address is
storage. -/
theorem opStore_leaves (he : effAddr m s = .ok (e, u)) (h : opStore reg m s = .ok t) :
    SameRegisters s t ∧ t.trace = u.trace ++ [.write e.addr (reg u)] ∧
      (IsStorage s.platform e.addr → inspectCell e.addr t = some (reg u)) := by
  rw [opStore_of_effAddr he] at h
  obtain ⟨w, hw, h⟩ := bind_ok.mp h
  cases h
  have ho := effAddr_observed he
  obtain ⟨ha, hx, hy, hsp, hf⟩ := memWrite_registers hw
  have htrace : w.trace = u.trace ++ [.write e.addr (reg u)] := memWrite_trace hw
  have hstored : IsStorage u.platform e.addr → inspectCell e.addr w = some (reg u) := memWrite_stored hw
  exact ⟨⟨ha.trans ho.a, hx.trans ho.x, hy.trans ho.y, hsp.trans ho.sp, hf.trans ho.flags⟩, htrace,
    ho.platform ▸ hstored⟩

/-- A store that faults commits nothing: its one write is the last of its accesses (60_exceptions.md R172). -/
theorem opStore_error_nothingCommitted (h : opStore reg m s = .error f) : NothingCommitted s f := by
  obtain h | ⟨⟨e, u⟩, he, h⟩ := bind_error.mp h
  · exact (effAddr_error h).nothingCommitted
  · obtain h | ⟨w, -, h⟩ := bind_error.mp h
    · obtain ⟨-, rfl⟩ := memWrite_error h
      have ho := effAddr_observed he
      exact ⟨⟨ho.a, ho.x, ho.y, ho.sp, ho.flags⟩, ho.pc, ho.mem⟩
    · cases h

end

/-- Settles O38: a store completes just where the bus answers at the effective address, and a fault comes before
anything is committed. -/
theorem storesWriteOneByte : Obligations.StoresWriteOneByte := by
  intro i s m v ho hi
  obtain ⟨reg, hp, hreg⟩ := perform_store ho hi
  have hexec : exec i s = finish (opStore reg m s) := (exec_eq_perform i s).trans (congrArg finish hp)
  rw [hexec]
  refine ⟨fun e u he ha => ?written, fun e u he ha => ?nowhere, fun f he => ?address⟩
  case written =>
    obtain ⟨t, ht⟩ := (opStore_completes (reg := reg) he).mpr ha
    obtain ⟨hsame, htrace, hstored⟩ := opStore_leaves he ht
    rw [hreg u (effAddr_observed he)] at htrace hstored
    refine ⟨t, finish_eq_next.mpr ht, hsame, ?_, htrace, hstored⟩
    rw [pcAfter_eq, ho]
    exact opStore_advances reg m s t ht
  case nowhere =>
    cases h : opStore reg m s with
    | ok t => exact absurd ((opStore_completes he).mp ⟨t, h⟩) ha
    | error f => exact ⟨f, rfl, opStore_error_nothingCommitted h⟩
  case address =>
    have h : opStore reg m s = .error f := opStore_of_effAddr_error he
    exact ⟨finish_eq_fault.mpr h, opStore_error_nothingCommitted h⟩

end Sys2Proof.Machine
end

section
/-! Words on the stack (20_memory.md R40, 40_addressing.md R87, R88): where a pull of a word completes, the transactions
of a push and of a pull, and that a pull answers the word pushed before it. -/

namespace Sys2Proof.Machine

section
variable {v : Addr} {s t : State}

/-! ### Pushing a word -/

/-- A push of a word writes S, and no other register or flag. -/
theorem pushWord_registers (h : pushWord v s = .ok t) : SameRegisters (s.setSp (s.sp - 2)) t := by
  obtain ⟨u, w, hu, hw, rfl⟩ := pushWord_ok h
  obtain ⟨hua, hux, huy, -, huf⟩ := memWrite_registers hu
  obtain ⟨hwa, hwx, hwy, -, hwf⟩ := memWrite_registers hw
  exact ⟨hwa.trans hua, hwx.trans hux, hwy.trans huy, rfl, hwf.trans huf⟩

/-- The high byte goes out first. -/
theorem pushWord_trace (h : pushWord v s = .ok t) :
    t.trace = s.trace ++ [.write (stackAddr s.sp) (hiByte v), .write (stackAddr (s.sp - 1)) (loByte v)] := by
  obtain ⟨u, w, hu, hw, rfl⟩ := pushWord_ok h
  simp [memWrite_trace hw, memWrite_trace hu]

/-- The cells of a pushed word hold its two bytes, where they are two: the write of the low byte leaves the high one. -/
theorem pushWord_stored (hhi : IsStorage s.platform (stackAddr s.sp)) (hlo : IsStorage s.platform (stackAddr (s.sp - 1)))
    (hne : translateAddr s.platform (stackAddr s.sp) ≠ translateAddr s.platform (stackAddr (s.sp - 1)))
    (h : pushWord v s = .ok t) :
    inspectCell (stackAddr s.sp) t = some (hiByte v) ∧ inspectCell (stackAddr (s.sp - 1)) t = some (loByte v) := by
  obtain ⟨u, w, hu, hw, rfl⟩ := pushWord_ok h
  have hp : u.platform = s.platform := (memWrite_frame hu).1
  rw [← hp] at hlo hne
  have hkept : inspectCell (stackAddr s.sp) w = inspectCell (stackAddr s.sp) u := (memWrite_frame hw).2 _ hne
  have hstored : inspectCell (stackAddr (s.sp - 1)) w = some (loByte v) := memWrite_stored hw hlo
  exact ⟨hkept.trans (memWrite_stored hu hhi), hstored⟩

/-! ### Pulling a word -/

theorem pull_completes : (∃ b, pull s = .ok b) ↔ Answers s.platform (stackAddr (s.sp + 1)) := memRead_completes

theorem pullWord_completes : (∃ b, pullWord s = .ok b) ↔
    Answers s.platform (stackAddr (s.sp + 1)) ∧ Answers s.platform (stackAddr (s.sp + 2)) := by
  refine bind_completes pull_completes fun b hb => ?_
  have ho := pull_observed hb
  have hp : b.2.platform = s.platform := ho.platform
  have hsp : b.2.sp + 1 = s.sp + 2 := by
    rw [ho.sp, State.setSp_sp, BitVec.add_assoc]
    rfl
  rw [← hp, ← hsp]
  exact bind_ok_completes.trans pull_completes

theorem memRead_trace {addr : Addr} {b : Byte} (h : memRead addr s = .ok (b, t)) :
    t.trace = s.trace ++ [.read addr b] := by
  obtain ⟨-, ⟨n, -, -, rfl⟩ | ⟨w, off, -, rfl⟩⟩ := memRead_ok h
  · rfl
  · rfl

/-- A read answers the byte that its address shows. -/
theorem memRead_eq_of_inspectCell {addr : Addr} {b c : Byte} (h : memRead addr s = .ok (b, t))
    (hc : inspectCell addr s = some c) : b = c := by
  cases (memRead_of_inspectCell hc).symm.trans h
  rfl

/-- A pulled word is made of the bytes of two reads, the low one first, each the byte that its address shows. -/
theorem pullWord_reads (h : pullWord s = .ok (v, t)) : ∃ lo hi, v = word hi lo ∧
    t.trace = s.trace ++ [.read (stackAddr (s.sp + 1)) lo, .read (stackAddr (s.sp + 2)) hi] ∧
    (∀ b, inspectCell (stackAddr (s.sp + 1)) s = some b → lo = b) ∧
    ∀ b, inspectCell (stackAddr (s.sp + 2)) s = some b → hi = b := by
  obtain ⟨lo, u, hi, hlo, hhi, hv, -⟩ := pullWord_ok h
  have hu : ∀ addr, inspectCell addr u = inspectCell addr s := (memRead_observed hlo).inspectCell
  refine ⟨lo, hi, hv, ?_, fun b hb => memRead_eq_of_inspectCell hlo hb,
    fun b hb => memRead_eq_of_inspectCell hhi ((hu _).trans hb)⟩
  simp [memRead_trace hhi, memRead_trace hlo]

theorem pullWord_observed (h : pullWord s = .ok (v, t)) : Observed (s.setSp (s.sp + 2)) t := by
  obtain ⟨-, -, -, -, -, -, ho⟩ := pullWord_ok h
  exact ho

theorem answers_of_inspectCell {addr : Addr} {b : Byte} (h : inspectCell addr s = some b) : Answers s.platform addr :=
  memRead_completes.mp ⟨_, memRead_of_inspectCell h⟩

/-- Where the two addresses show the bytes of a word, that word is pulled. -/
theorem pullWord_of_inspectCell (hlo : inspectCell (stackAddr (s.sp + 1)) s = some (loByte v))
    (hhi : inspectCell (stackAddr (s.sp + 2)) s = some (hiByte v)) : ∃ u, pullWord s = .ok (v, u) := by
  obtain ⟨⟨v', u⟩, hu⟩ := pullWord_completes.mpr ⟨answers_of_inspectCell hlo, answers_of_inspectCell hhi⟩
  obtain ⟨lo, hi, hv, -, hl, hh⟩ := pullWord_reads hu
  rw [hl _ hlo, hh _ hhi, word_hiByte_loByte] at hv
  exact ⟨u, hv ▸ hu⟩

end

end Sys2Proof.Machine
end

section
/-! Control transfer (44_branch_jump.md R130 to R141; O39 to O42): where a branch and a jump go, and that RTS returns
behind the JSR. -/

namespace Sys2Proof.Machine

/-! ### Branches -/

/-- The sign-extended byte counts as the signed offset, modulo 2^16 (R130). -/
theorem branchTarget_eq_ofInt (off : Byte) (s : State) :
    branchTarget off s = BitVec.ofInt 16 (s.pc.toNat + 2 + off.toInt) := by
  rw [branchTarget, BitVec.signExtend, BitVec.ofInt_add, BitVec.ofInt_add, BitVec.ofInt_natCast, BitVec.ofNat_toNat,
    BitVec.setWidth_eq]
  rfl

/-- The common rule of the eight branches (R130), with the bit tested said as a condition `P`. -/
theorem exec_of_opBranch {i : Instr} {taken : Bool} {off : Byte} {s : State} {P : Prop} [Decidable P]
    (hi : exec i s = .next (opBranch taken off s)) (ht : taken = true ↔ P) :
    exec i s = .next (if P then s.setPc (BitVec.ofInt 16 (s.pc.toNat + 2 + off.toInt)) else s.setPc (s.pc + 2)) := by
  simp only [hi, opBranch, ht, branchTarget_eq_ofInt]

/-- Settles O39: each branch is the common rule, on a flag or its complement. -/
theorem branchesTestOneFlag : Obligations.BranchesTestOneFlag := by
  intro off s
  have clear (b : Bool) : (!b) = true ↔ b = false := .of_eq (Bool.not_eq_true' b)
  exact ⟨exec_of_opBranch rfl (clear s.flags.c), exec_of_opBranch rfl .rfl, exec_of_opBranch rfl .rfl,
    exec_of_opBranch rfl (clear s.flags.z), exec_of_opBranch rfl .rfl, exec_of_opBranch rfl (clear s.flags.n),
    exec_of_opBranch rfl (clear s.flags.v), exec_of_opBranch rfl .rfl⟩

/-! ### Jumps -/

section
variable {m : MemOperand} {s u : State} {e : EffAddr} {f : Fault}

theorem opJmp_of_effAddr (h : effAddr m s = .ok (e, u)) : opJmp m s = .ok (u.setPc e.addr) := by
  rw [opJmp, h]
  rfl

/-- A fault of the resolver is the fault of the jump. -/
theorem opJmp_of_effAddr_error (h : effAddr m s = .error f) : opJmp m s = .error f := by
  rw [opJmp, h]
  rfl

end

/-- Settles O40: after the resolver a jump makes no access. -/
theorem jmpGoesToTheAddress : Obligations.JmpGoesToTheAddress := fun _ =>
  ⟨fun addr => congrArg finish (opJmp_of_effAddr (m := .absolute addr) rfl),
    fun _ => ⟨fun _ _ h => congrArg finish (opJmp_of_effAddr h),
      fun _ h => ⟨congrArg finish (opJmp_of_effAddr_error h), (effAddr_error h).nothingCommitted⟩⟩⟩

/-! ### Subroutine call and return -/

/-- JSR to an absolute address makes no access but the two pushes (R140). -/
theorem exec_jsrAbs_eq_next {addr : Addr} {s t : State} :
    exec (.jsrAbs addr) s = .next t ↔ ∃ w, pushWord (s.pc + 2) s = .ok w ∧ t = w.setPc addr := by
  have hexec : exec (.jsrAbs addr) s = finish (pushWord (s.pc + 2) s >>= fun w => .ok (w.setPc addr)) := rfl
  rw [hexec, finish_eq_next, bind_ok]
  simp only [Except.ok.injEq, eq_comm]

/-- RTS goes to the address after the word pulled (R141). -/
theorem exec_rts_of_pullWord {v : Addr} {s w : State} (h : pullWord s = .ok (v, w)) :
    exec .rts s = .next (w.setPc (v + 1)) := by
  have hexec : exec .rts s = finish (pullWord s >>= fun b => .ok (b.2.setPc (b.1 + 1))) := rfl
  rw [hexec, h]
  rfl

/-- Settles O41: JSR is a push of a word and RTS a pull of one, each with its effect on PC. -/
theorem jsrPushesAndRtsPulls : Obligations.JsrPushesAndRtsPulls := by
  refine fun s => ⟨fun addr hhi hlo => ?jsr, fun hlo hhi => ?rts⟩
  case jsr =>
    obtain ⟨w, hw⟩ := pushWord_completes.mpr ⟨hhi, hlo⟩
    obtain ⟨ha, hx, hy, hsp, hf⟩ := pushWord_registers hw
    have htrace := pushWord_trace hw
    exact ⟨_, exec_jsrAbs_eq_next.mpr ⟨w, hw, rfl⟩, rfl, hsp, ha, hx, hy, hf, htrace⟩
  case rts =>
    obtain ⟨⟨v, w⟩, hw⟩ := pullWord_completes.mpr ⟨hlo, hhi⟩
    obtain ⟨lo, hi, rfl, htrace, hl, hh⟩ := pullWord_reads hw
    have ho := pullWord_observed hw
    exact ⟨_, lo, hi, exec_rts_of_pullWord hw, rfl, ho.sp, ho.a, ho.x, ho.y, ho.flags, ho.mem, htrace, hl, hh⟩

/-- Settles O42: S is back where JSR found it, so RTS pulls from the two cells that JSR wrote. -/
theorem rtsUndoesJsr : Obligations.RtsUndoesJsr := by
  intro addr s t hhi hlo hne h
  obtain ⟨w, hw, rfl⟩ := exec_jsrAbs_eq_next.mp h
  obtain ⟨ha, hx, hy, hsp, hf⟩ := pushWord_registers hw
  obtain ⟨cellHi, cellLo⟩ := pushWord_stored hhi hlo hne hw
  have hsp1 : w.sp + 1 = s.sp - 1 := by rw [hsp, State.setSp_sp]; bv_omega
  have hsp2 : w.sp + 2 = s.sp := by rw [hsp, State.setSp_sp, BitVec.sub_add_cancel]
  rw [← hsp1] at cellLo
  rw [← hsp2] at cellHi
  obtain ⟨u, hu⟩ : ∃ u, pullWord (w.setPc addr) = .ok (s.pc + 2, u) := pullWord_of_inspectCell cellLo cellHi
  have ho := pullWord_observed hu
  have hpc : s.pc + 2 + 1 = s.pc + 3 := BitVec.add_assoc ..
  exact ⟨_, exec_rts_of_pullWord hu, hpc, ⟨ho.a.trans ha, ho.x.trans hx, ho.y.trans hy, ho.sp.trans hsp2,
    ho.flags.trans hf⟩, ho.mem⟩

end Sys2Proof.Machine
end

section
/-! The software trap and the return from it (60_exceptions.md R177, R178): the transactions of each, the three cells that
trap entry leaves on the stack, and where the return completes. -/

namespace Sys2Proof.Machine

section
variable {ret vector v : Addr} {b4 : Bool} {s t : State}

/-! ### Trap entry -/

/-- A vector is made of the bytes of two reads, the low one first, each the byte that its address shows. -/
theorem readVector_reads (h : readVector vector s = .ok (v, t)) : ∃ lo hi, v = word hi lo ∧
    t.trace = s.trace ++ [.read vector lo, .read (vector + 1) hi] ∧
    (∀ b, inspectCell vector s = some b → lo = b) ∧ ∀ b, inspectCell (vector + 1) s = some b → hi = b := by
  obtain ⟨lo, u, hi, hlo, hhi, hv, -⟩ := readVector_ok h
  have hu : ∀ addr, inspectCell addr u = inspectCell addr s := (memRead_observed hlo).inspectCell
  refine ⟨lo, hi, hv, ?_, fun b hb => memRead_eq_of_inspectCell hlo hb,
    fun b hb => memRead_eq_of_inspectCell hhi ((hu _).trans hb)⟩
  simp [memRead_trace hhi, memRead_trace hlo]

/-- A trap writes S and I, and no other register or flag. -/
theorem takeTrap_registers (h : takeTrap ret vector b4 s = .ok t) :
    SameRegisters ((s.setSp (s.sp - 3)).setFlags { s.flags with i := true }) t := by
  have keeps := takeTrap_writesOnly h
  obtain ⟨hsp, hf⟩ := takeTrap_sp_flags h
  exact ⟨keeps .a (by simp), keeps .x (by simp), keeps .y (by simp), hsp, hf⟩

/-- The transactions of a trap: three pushes, then the vector, whose bytes are those that its addresses show after the
pushes. -/
theorem takeTrap_transactions (h : takeTrap ret vector b4 s = .ok t) : ∃ lo hi, t.pc = word hi lo ∧
    t.trace = s.trace ++ [.write (stackAddr s.sp) (hiByte ret), .write (stackAddr (s.sp - 1)) (loByte ret),
      .write (stackAddr (s.sp - 2)) (s.flags.pByte b4), .read vector lo, .read (vector + 1) hi] ∧
    (∀ b, inspectCell vector t = some b → lo = b) ∧ ∀ b, inspectCell (vector + 1) t = some b → hi = b := by
  obtain ⟨u, w, x, v, y, hu, hw, rfl, hy, rfl⟩ := takeTrap_ok h
  obtain ⟨lo, hi, hv, htrace, hlo, hhi⟩ := readVector_reads hy
  have shown (addr : Addr) := (readVector_observed hy).inspectCell addr
  refine ⟨lo, hi, hv, ?_, fun b hb => hlo b ((shown _).symm.trans hb), fun b hb => hhi b ((shown _).symm.trans hb)⟩
  simp [htrace, memWrite_trace hw, pushWord_trace hu]

/-- The three cells of a trap hold the bytes pushed, where they are three: the later writes leave the earlier ones, and
the vector is only read. -/
theorem takeTrap_stored (hhi : IsStorage s.platform (stackAddr s.sp)) (hlo : IsStorage s.platform (stackAddr (s.sp - 1)))
    (hst : IsStorage s.platform (stackAddr (s.sp - 2)))
    (hHiLo : translateAddr s.platform (stackAddr s.sp) ≠ translateAddr s.platform (stackAddr (s.sp - 1)))
    (hHiP : translateAddr s.platform (stackAddr s.sp) ≠ translateAddr s.platform (stackAddr (s.sp - 2)))
    (hLoP : translateAddr s.platform (stackAddr (s.sp - 1)) ≠ translateAddr s.platform (stackAddr (s.sp - 2)))
    (h : takeTrap ret vector b4 s = .ok t) :
    inspectCell (stackAddr s.sp) t = some (hiByte ret) ∧ inspectCell (stackAddr (s.sp - 1)) t = some (loByte ret) ∧
      inspectCell (stackAddr (s.sp - 2)) t = some (s.flags.pByte b4) := by
  obtain ⟨u, w, x, v, y, hu, hw, rfl, hy, rfl⟩ := takeTrap_ok h
  obtain ⟨cellHi, cellLo⟩ := pushWord_stored hhi hlo hHiLo hu
  have hp : u.platform = s.platform := ((pushWord_inside _ s).1 u hu).platform
  rw [← hp] at hst hHiP hLoP
  obtain ⟨-, kept⟩ := memWrite_frame hw
  have shown : ∀ addr, inspectCell addr y = inspectCell addr w := (readVector_observed hy).inspectCell
  exact ⟨(shown _).trans ((kept _ hHiP).trans cellHi), (shown _).trans ((kept _ hLoP).trans cellLo),
    (shown _).trans (memWrite_stored hw hst)⟩

/-! ### Return from trap -/

theorem pull_trace {b : Byte} (h : pull s = .ok (b, t)) : t.trace = s.trace ++ [.read (stackAddr (s.sp + 1)) b] := by
  have htrace : t.trace = (s.setSp (s.sp + 1)).trace ++ _ := memRead_trace h
  exact htrace

/-- After a pull, the next two stack addresses count from S as it was before. -/
theorem pull_sp {b : Byte} (h : pull s = .ok (b, t)) :
    t.sp = s.sp + 1 ∧ t.sp + 1 = s.sp + 2 ∧ t.sp + 2 = s.sp + 3 := by
  have hsp : t.sp = s.sp + 1 := (pull_observed h).sp
  exact ⟨hsp, by rw [hsp, BitVec.add_assoc]; rfl, by rw [hsp, BitVec.add_assoc]; rfl⟩

/-- Return from trap completes where the bus answers at the three stack addresses. -/
theorem returnFromTrap_completes : (∃ t, returnFromTrap s = .ok t) ↔ Answers s.platform (stackAddr (s.sp + 1)) ∧
    Answers s.platform (stackAddr (s.sp + 2)) ∧ Answers s.platform (stackAddr (s.sp + 3)) := by
  refine bind_completes pull_completes fun b hb => ?_
  have hp : b.2.platform = s.platform := (pull_observed hb).platform
  obtain ⟨-, hsp2, hsp3⟩ := pull_sp hb
  rw [← hp, ← hsp2, ← hsp3]
  exact bind_ok_completes.trans pullWord_completes

/-- What return from trap leaves: S up by three, the flags of the byte pulled first, PC of the two bytes after it, and
three reads, each answering the byte that its address shows. -/
theorem returnFromTrap_reads (h : returnFromTrap s = .ok t) : ∃ p lo hi,
    Observed (((s.setSp (s.sp + 3)).setFlags (Flags.ofByte p)).setPc (word hi lo)) t ∧
    t.trace = s.trace ++ [.read (stackAddr (s.sp + 1)) p, .read (stackAddr (s.sp + 2)) lo,
      .read (stackAddr (s.sp + 3)) hi] ∧
    (∀ b, inspectCell (stackAddr (s.sp + 1)) s = some b → p = b) ∧
    (∀ b, inspectCell (stackAddr (s.sp + 2)) s = some b → lo = b) ∧
    ∀ b, inspectCell (stackAddr (s.sp + 3)) s = some b → hi = b := by
  obtain ⟨p, u, v, w, hu, hw, rfl⟩ := returnFromTrap_ok h
  have ho := pull_observed hu
  obtain ⟨-, hsp2, hsp3⟩ := pull_sp hu
  have shown : ∀ addr, inspectCell addr u = inspectCell addr s := ho.inspectCell
  obtain ⟨lo, hi, rfl, htrace, hlo, hhi⟩ := pullWord_reads hw
  simp only [State.setFlags_sp, State.setFlags_trace, hsp2, hsp3] at htrace hlo hhi
  refine ⟨p, lo, hi, ?_, ?_, fun b hb => memRead_eq_of_inspectCell hu hb, fun b hb => hlo b ((shown _).trans hb),
    fun b hb => hhi b ((shown _).trans hb)⟩
  · have hk := pullWord_observed hw
    rw [State.setFlags_sp, hsp3] at hk
    unfold Observed at *
    rw [hk, ho]
    rfl
  · simp [htrace, pull_trace hu]

end

end Sys2Proof.Machine
end

section
/-! Stack, flags and system (45_stack_flags_system.md R145 to R157; O44 to O49): the two pushes and the two pulls, the
flag instructions, and that RTI takes back what BRK did. -/

namespace Sys2Proof.Machine

/-! ### One-byte instructions -/

/-- An instruction that ends in `r` but for PC, which passes its one byte (R89). -/
theorem exec_of_next {i : Instr} {s r : State} (hi : perform i s = .ok (next 0 r)) :
    exec i s = .next { r with pc := r.pc + 1 } := by
  rw [exec_eq_perform, finish_eq_next, hi, ← nextPc_zero]
  rfl

/-- The common rule of the flag instructions (R149 to R155). -/
theorem exec_of_opFlag {i : Instr} {s : State} {f : Flags} (hi : perform i s = .ok (opFlag f s)) :
    exec i s = .next { s with flags := f, pc := s.pc + 1 } :=
  exec_of_next (r := s.setFlags f) hi

/-- Settles O46: seven flags written by the common rule, and NOP, which ends where it began but for PC. -/
theorem flagInstructionsWriteOneFlag : Obligations.FlagInstructionsWriteOneFlag := fun _ =>
  ⟨exec_of_opFlag rfl, exec_of_opFlag rfl, exec_of_opFlag rfl, exec_of_opFlag rfl, exec_of_opFlag rfl,
    exec_of_opFlag rfl, exec_of_opFlag rfl, exec_of_next rfl⟩

/-! ### Pushes and pulls -/

/-- A push issues one write, which the cell of a storage address shows. -/
theorem push_transaction {v : Byte} {s t : State} (h : push v s = .ok t) :
    t.trace = s.trace ++ [.write (stackAddr s.sp) v] ∧
      (IsStorage s.platform (stackAddr s.sp) → inspectCell (stackAddr s.sp) t = some v) := by
  obtain ⟨u, hu, rfl⟩ := push_ok h
  have htrace : u.trace = s.trace ++ [.write (stackAddr s.sp) v] := memWrite_trace hu
  have hstored : IsStorage s.platform (stackAddr s.sp) → inspectCell (stackAddr s.sp) u = some v := memWrite_stored hu
  exact ⟨htrace, hstored⟩

/-- The common rule of PHA and PHP: push a byte, and pass the opcode (R145, R146). -/
theorem exec_of_push {i : Instr} {s : State} {v : Byte} (ha : Answers s.platform (stackAddr s.sp))
    (hi : perform i s = push v s >>= fun u => .ok (next 0 u)) :
    ∃ t, exec i s = .next t ∧ t.sp = s.sp - 1 ∧ t.pc = s.pc + 1 ∧ t.a = s.a ∧ t.x = s.x ∧ t.y = s.y ∧
      t.flags = s.flags ∧ t.trace = s.trace ++ [.write (stackAddr s.sp) v] ∧
      (IsStorage s.platform (stackAddr s.sp) → inspectCell (stackAddr s.sp) t = some v) := by
  obtain ⟨u, hu⟩ := push_completes.mpr ha
  rw [hu, ok_bind] at hi
  obtain ⟨hra, hx, hy, hsp, hf⟩ := push_registers hu
  have hpc : u.pc = s.pc := ((push_inside v s).1 u hu).pc
  obtain ⟨htrace, hstored⟩ := push_transaction hu
  exact ⟨_, exec_of_next hi, hsp, congrArg (· + 1) hpc, hra, hx, hy, hf, htrace, hstored⟩

/-- Settles O44: both are the common rule, for A and for the status byte. -/
theorem pushesStoreRegister : Obligations.PushesStoreRegister := fun _ ha =>
  ⟨exec_of_push ha rfl, exec_of_push ha rfl⟩

/-- The common rule of PLA and PLP: pull a byte, write registers by `g`, and pass the opcode (R147, R148). -/
theorem exec_of_pull {i : Instr} {s u : State} {v : Byte} {g : Byte × State → State} (hu : pull s = .ok (v, u))
    (hi : perform i s = pull s >>= fun b => .ok (next 0 (g b))) :
    exec i s = .next { g (v, u) with pc := (g (v, u)).pc + 1 } := by
  rw [hu, ok_bind] at hi
  exact exec_of_next hi

/-- Settles O45: the pull leaves PC and the flags, so what each writes is said of the state before it. -/
theorem pullsLoadRegister : Obligations.PullsLoadRegister := by
  intro s ha
  obtain ⟨⟨v, u⟩, hu⟩ := pull_completes.mpr ha
  have ho := pull_observed hu
  have hpc : u.pc = s.pc := ho.pc
  have hf : u.flags = s.flags := ho.flags
  refine ⟨v, u, hu, ?pla, ?plp, ho, fun b hb => memRead_eq_of_inspectCell hu hb⟩
  case pla =>
    rw [← hpc, ← hf]
    exact exec_of_pull (g := fun b => (b.2.setA b.1).setFlags (b.2.flags.setNZ b.1)) hu rfl
  case plp =>
    rw [← hpc]
    exact exec_of_pull (g := fun b => b.2.setFlags (Flags.ofByte b.1)) hu rfl

/-! ### The trap and its return -/

/-- BRK is trap entry (R156). -/
theorem exec_brk_eq_next {s t : State} :
    exec .brk s = .next t ↔ takeTrap (s.pc + 2) Config.brkVector true s = .ok t := finish_eq_next

/-- RTI is return from trap (R157). -/
theorem exec_rti_eq_next {s t : State} : exec .rti s = .next t ↔ returnFromTrap s = .ok t := finish_eq_next

/-- Settles O47: BRK is trap entry to the address after its padding byte. -/
theorem brkEntersTrap : Obligations.BrkEntersTrap := by
  intro s hhi hlo hst hv hv'
  obtain ⟨t, h⟩ := takeTrap_completes.mpr ⟨⟨hhi, hlo⟩, hst, hv, hv'⟩
  obtain ⟨ha, hx, hy, hsp, hf⟩ := takeTrap_registers h
  obtain ⟨lo, hi, hpc, htrace, hcells⟩ := takeTrap_transactions h
  exact ⟨t, lo, hi, exec_brk_eq_next.mpr h, hpc, hsp, ha, hx, hy, hf, htrace, hcells⟩

/-- Settles O48: RTI is return from trap. -/
theorem rtiReturnsFromTrap : Obligations.RtiReturnsFromTrap := by
  intro s hp hlo hhi
  obtain ⟨t, h⟩ := returnFromTrap_completes.mpr ⟨hp, hlo, hhi⟩
  obtain ⟨p, lo, hi, ho, htrace, hcells⟩ := returnFromTrap_reads h
  exact ⟨t, p, lo, hi, exec_rti_eq_next.mpr h, ho.pc, ho.sp, ho.a, ho.x, ho.y, ho.flags, ho.mem, htrace, hcells⟩

/-- Settles O49: S is three below where BRK found it, so RTI pulls the three bytes that BRK pushed, and the status byte
holds the flags as they were before I was set. -/
theorem rtiUndoesBrk : Obligations.RtiUndoesBrk := by
  intro s t hhi hlo hst hHiLo hHiP hLoP h
  have h := exec_brk_eq_next.mp h
  obtain ⟨cellHi, cellLo, cellP⟩ := takeTrap_stored hhi hlo hst hHiLo hHiP hLoP h
  obtain ⟨ha, hx, hy, hsp, -⟩ := takeTrap_registers h
  rw [State.setFlags_sp, State.setSp_sp] at hsp
  have hsp1 : t.sp + 1 = s.sp - 2 := by rw [hsp]; bv_omega
  have hsp2 : t.sp + 2 = s.sp - 1 := by rw [hsp]; bv_omega
  have hsp3 : t.sp + 3 = s.sp := by rw [hsp, BitVec.sub_add_cancel]
  rw [← hsp1] at cellP
  rw [← hsp2] at cellLo
  rw [← hsp3] at cellHi
  obtain ⟨u, hu⟩ := returnFromTrap_completes.mpr
    ⟨answers_of_inspectCell cellP, answers_of_inspectCell cellLo, answers_of_inspectCell cellHi⟩
  obtain ⟨p, lo, hi, ho, -, hp, hl, hh⟩ := returnFromTrap_reads hu
  have hpc : word hi lo = s.pc + 2 := by rw [hh _ cellHi, hl _ cellLo, word_hiByte_loByte]
  have hf : Flags.ofByte p = s.flags := by rw [hp _ cellP, Flags.ofByte_pByte]
  exact ⟨u, exec_rti_eq_next.mpr hu, ho.pc.trans hpc,
    ⟨ho.a.trans ha, ho.x.trans hx, ho.y.trans hy, ho.sp.trans hsp3, ho.flags.trans hf⟩, ho.mem⟩

end Sys2Proof.Machine
end

section
/-! The undocumented opcodes (46_undocumented.md R165 to R168; O51): their rule runs the resolver, and adds to what it
leaves only the diagnostic and the new PC. -/

namespace Sys2Proof.Machine

/-- The rule of every undocumented opcode is the diagnosed no-op (R165). -/
theorem exec_of_undocumented {i : Instr} (hi : i.mnemonic.documented = false) (s : State) :
    exec i s = finish (diagnosed i.opcode i.operand s) := by
  rw [exec_eq_perform]
  unfold perform
  generalize i.mnemonic = m at *
  cases m with
  | jam | slo | nopUndoc | anc | rla | sre | alr | rra | arr | sax | xaa | ahx | tas | shy | shx | lax | las | dcp | axs
  | isc | sbcUndoc => rfl
  | _ => cases hi

section
variable {op : Byte} {o : Operand} {s u : State} {r : Resolved} {f : Fault}

/-- The diagnosed no-op whose resolver completes reports `start`, which the resolver has left in PC. -/
theorem diagnosed_of_resolve (h : resolve o s = .ok (r, u)) :
    diagnosed op o s = .ok (next (operandSize o) (u.report (.doneDiag op s.pc))) := by
  rw [← (resolve_observed h).pc]
  exact bind_ok.mpr ⟨_, h, rfl⟩

/-- A fault of the resolver comes before the diagnostic (60_exceptions.md R174). -/
theorem diagnosed_of_resolve_error (h : resolve o s = .error f) : diagnosed op o s = .error f :=
  bind_error.mpr (.inl h)

/-- The modes other than the three with a pointer access nothing (R77 to R82). -/
theorem resolve_of_no_pointer (hp : ∀ p, o ≠ .memory (.indirect p)) (hx : ∀ z, o ≠ .memory (.indirectX z))
    (hy : ∀ z, o ≠ .memory (.indirectY z)) : ∃ r, resolve o s = .ok (r, s) := by
  cases o with
  | memory m =>
    cases m with
    | indirect p => exact absurd rfl (hp p)
    | indirectX z => exact absurd rfl (hx z)
    | indirectY z => exact absurd rfl (hy z)
    | _ => exact ⟨_, rfl⟩
  | _ => exact ⟨_, rfl⟩

end

/-- JMP alone has the mode Indirect (R83), and it is documented. -/
theorem undocumented_ne_indirect {i : Instr} (hi : i.mnemonic.documented = false) (p : Addr) :
    i.operand ≠ .memory (.indirect p) := by
  intro h
  cases indirect_operand h
  cases hi

/-- The end of a diagnosed no-op, after computations that changed only what the bus exposes. -/
theorem next_report_of_observed {s u : State} (h : Observed s u) (i : Instr) (d : Report) :
    next (operandSize i.operand) (u.report d) = { s with
      trace := u.trace
      deviceLog := u.deviceLog
      outcome := d
      record := s.record ++ [d]
      pc := pcAfter i s } := by
  rw [next_eq_pcAfter, h]
  rfl

/-- Settles O51: the resolver changes only what the bus exposes, and only the pointer modes access the bus. -/
theorem undocumentedAreDiagnosedNoOps : Obligations.UndocumentedAreDiagnosedNoOps := by
  intro i s hi
  have completes {r u} (h : resolve i.operand s = .ok (r, u)) :
      exec i s = .next (next (operandSize i.operand) (u.report (.doneDiag i.opcode s.pc))) := by
    rw [exec_of_undocumented hi, diagnosed_of_resolve h, finish_ok]
  refine ⟨fun r u h => ?completes, fun f h => ?faults, fun h => ?noPointer⟩
  case completes => rw [completes h, next_report_of_observed (resolve_observed h)]
  case faults =>
    refine ⟨?_, (resolve_error h).nothingCommitted⟩
    rw [exec_of_undocumented hi, diagnosed_of_resolve_error h, finish_error]
  case noPointer =>
    obtain ⟨r, hr⟩ := resolve_of_no_pointer (undocumented_ne_indirect hi) (fun z => (h z).1) fun z => (h z).2
    exact ⟨_, completes hr, rfl⟩

end Sys2Proof.Machine
end

section
/-! The outcome of a step (60_exceptions.md R170 to R175; O7, O8): the rule of a documented instruction reports nothing,
that of an undocumented one its diagnostic, and a fault was raised at one access of the step, in a state whose PC is
still `start`. -/

namespace Sys2Proof.Machine

/-! ### Rules that report nothing -/

/-- Where `r` completes, the outcome and the record are those of `s`. -/
def Unreported (s : State) (r : Except Fault State) : Prop :=
  ∀ t, r = .ok t → t.outcome = s.outcome ∧ t.record = s.record

theorem Unreported.ok {s t : State} (ho : t.outcome = s.outcome) (hr : t.record = s.record) : Unreported s (.ok t) :=
  fun _ e => by cases e; exact ⟨ho, hr⟩

/-- A computation inside the step reports nothing where it completes. -/
theorem Unreported.bind {α : Type} {s : State} {state : α → State} {x : Except Fault α} {g : α → Except Fault State}
    (hx : Inside s state x) (hg : ∀ b, Unreported (state b) (g b)) : Unreported s (x >>= g) := by
  intro t ht
  obtain ⟨b, hb, ht⟩ := bind_ok.mp ht
  obtain ⟨ho, hr⟩ := hg b t ht
  have hp := hx.1 b hb
  exact ⟨ho.trans hp.outcome, hr.trans hp.record⟩

theorem read_unreported {o : Operand} {g : Byte × State → State} (s : State)
    (ho : ∀ b, (g b).outcome = b.2.outcome) (hr : ∀ b, (g b).record = b.2.record) :
    Unreported s (readOperand o s >>= fun b => .ok (g b)) :=
  .bind (readOperand_inside o s) fun b => .ok (ho b) (hr b)

theorem opModify_unreported (value : Byte → Bool → Byte) (flags : Byte → Byte → Flags → Flags) (o : Operand)
    (s : State) : Unreported s (opModify value flags o s) :=
  .bind (resolve_inside o s) fun b => .bind (load_inside b.1.loc b.2) fun c =>
    .bind (store_inside b.1.loc _ c.2) fun _ => .ok rfl rfl

theorem opStore_unreported (reg : State → Byte) (m : MemOperand) (s : State) : Unreported s (opStore reg m s) :=
  .bind (effAddr_inside m s) fun b => .bind (memWrite_inside _ _ b.2) fun _ => .ok rfl rfl

theorem opJmp_unreported (m : MemOperand) (s : State) : Unreported s (opJmp m s) :=
  .bind (effAddr_inside m s) fun _ => .ok rfl rfl

theorem opJsr_unreported (m : MemOperand) (s : State) : Unreported s (opJsr m s) :=
  .bind (effAddr_inside m s) fun b => .bind (pushWord_inside _ b.2) fun _ => .ok rfl rfl

theorem takeTrap_unreported (ret vector : Addr) (b4 : Bool) (s : State) : Unreported s (takeTrap ret vector b4 s) :=
  .bind (pushWord_inside ret s) fun t => .bind (push_inside _ t) fun _ =>
    .bind (state := Prod.snd) (.from (.setFlags _ _) (readVector_inside vector _)) fun _ => .ok rfl rfl

theorem returnFromTrap_unreported (s : State) : Unreported s (returnFromTrap s) :=
  .bind (pull_inside s) fun _ =>
    .bind (state := Prod.snd) (.from (.setFlags _ _) (pullWord_inside _)) fun _ => .ok rfl rfl

theorem withAddress_unreported {o : Operand} {f : MemOperand → Except Fault State} {s : State}
    (h : ∀ m, Unreported s (f m)) : Unreported s (withAddress o f s) := by
  cases o with
  | memory m => exact h m
  | _ => exact .ok rfl rfl

theorem withOffset_branch_unreported (o : Operand) (taken : Bool) (s : State) :
    Unreported s (.ok (withOffset o (opBranch taken · s) s)) := by
  cases o with
  | relative off => cases taken <;> exact .ok rfl rfl
  | _ => exact .ok rfl rfl

/-- "A documented instruction never emits the diagnostic" (R174). -/
theorem perform_unreported {i : Instr} (hi : i.mnemonic.documented = true) (s : State) :
    Unreported s (perform i s) := by
  unfold perform
  generalize i.mnemonic = m at hi
  cases m with
  | adc | sbc | cmp | cpx | cpy | and | ora | eor | bit | lda | ldx | ldy =>
    exact read_unreported s (fun _ => rfl) fun _ => rfl
  | asl | lsr | rol | ror | inc | dec => exact opModify_unreported _ _ _ s
  | sta | stx | sty => exact withAddress_unreported fun m => opStore_unreported _ m s
  | jmp => exact withAddress_unreported fun m => opJmp_unreported m s
  | jsr => exact withAddress_unreported fun m => opJsr_unreported m s
  | rts => exact .bind (pullWord_inside s) fun _ => .ok rfl rfl
  | pha | php => exact .bind (push_inside _ s) fun _ => .ok rfl rfl
  | pla | plp => exact .bind (pull_inside s) fun _ => .ok rfl rfl
  | brk => exact takeTrap_unreported _ _ _ s
  | rti => exact returnFromTrap_unreported s
  | bcc | bcs | beq | bne | bmi | bpl | bvc | bvs => exact withOffset_branch_unreported _ _ s
  | inx | iny | dex | dey | tax | tay | txa | tya | tsx | txs | nop | clc | sec | cli | sei | cld | sed | clv =>
    exact .ok rfl rfl
  | jam | slo | nopUndoc | anc | rla | sre | alr | rra | arr | sax | xaa | ahx | tas | shy | shx | lax | las | dcp | axs
  | isc | sbcUndoc => cases hi

/-! ### What instructions and faults report -/

theorem exec_documented_reports {i : Instr} {s t : State} (hi : i.mnemonic.documented = true)
    (h : exec i s = .next t) : t.outcome = s.outcome ∧ t.record = s.record :=
  perform_unreported hi s t (finish_eq_next.mp (exec_eq_perform i s ▸ h))

/-- The diagnostic carries `start`, which is in PC until the end of the instruction (R173). -/
theorem exec_undocumented_reports {i : Instr} {s t : State} (hi : i.mnemonic.documented = false)
    (h : exec i s = .next t) :
    t.outcome = .doneDiag i.opcode s.pc ∧ t.record = s.record ++ [.doneDiag i.opcode s.pc] := by
  rw [exec_of_undocumented hi, finish_eq_next] at h
  obtain ⟨r, u, -, ho, rfl⟩ := diagnosed_ok h
  exact ⟨rfl, congrArg (· ++ _) ho.record⟩

section
variable {s : State} {f : Fault}

/-- A fault carries the address and kind that it reports and records (R171, R175). -/
theorem FaultFrom.reports (h : FaultFrom s f) : ∃ addr kind left, f = .busFault addr kind left ∧
    translateAddr s.platform addr = .nowhere ∧ left.outcome = .busFault addr kind ∧
    left.record = s.record ++ [.busFault addr kind] := by
  obtain ⟨u, addr, hu, hn, rfl | ⟨v, rfl⟩⟩ := h
  · exact ⟨addr, .read, _, rfl, hn, rfl, congrArg (· ++ _) hu.record⟩
  · exact ⟨addr, .write, _, rfl, hn, rfl, congrArg (· ++ _) hu.record⟩

/-- A fault leaves PC, which no rule writes before its last statement, and the platform (R171, D5). -/
theorem FaultFrom.keeps (h : FaultFrom s f) : f.left.pc = s.pc ∧ f.left.platform = s.platform := by
  obtain ⟨u, addr, hu, -, rfl | ⟨v, rfl⟩⟩ := h
  · exact ⟨hu.pc, hu.platform⟩
  · exact ⟨hu.pc, hu.platform⟩

end

/-- Settles O7: the fetch reports nothing, so the report of a completed step is that of its instruction; a fault
reports the access that raised it. -/
theorem stepHasOneOutcome : Obligations.StepHasOneOutcome := by
  intro s
  cases h : step s with
  | next t =>
    obtain ⟨i, u, hu, ht⟩ := step_eq_next.mp h
    obtain ⟨ho, -⟩ := fetch_ok hu
    refine .inl ⟨i, u, t, hu, rfl, fun hi => ?documented, fun hi => ?undocumented⟩
    case documented =>
      obtain ⟨houtcome, hrecord⟩ := exec_documented_reports hi ht
      exact ⟨houtcome.trans ho.outcome, hrecord.trans ho.record⟩
    case undocumented =>
      have hpc : u.pc = s.pc := ho.pc
      have hrecord : u.record = s.record := ho.record
      rw [← hpc, ← hrecord]
      exact exec_undocumented_reports hi ht
  | fault f =>
    obtain ⟨addr, kind, left, rfl, hreports⟩ := (step_fault_from h).reports
    exact .inr ⟨addr, kind, left, rfl, hreports⟩
  | refused q => exact absurd h (step_ne_refused s q)

/-- Settles O8: PC and the platform stay up to the access that faults, and a fetch only reads. -/
theorem faultLeavesStart : Obligations.FaultLeavesStart := fun _ =>
  ⟨fun _ h => (step_fault_from h).keeps,
    fun _ h => ⟨step_eq_fault.mpr (.inl h), (fetch_error h).1.nothingCommitted⟩,
    fun _ h => (step_next_later h).platform⟩

end Sys2Proof.Machine
end

section
/-! What a step has committed when one of its transactions faults (60_exceptions.md R171, R172; O50): nothing, but for
the instructions with pushes or pulls before that transaction. `Pushed` follows the state through the pushes, and
`Pushed.leaves` says what a fault after them leaves. -/

namespace Sys2Proof.Machine

/-! ### Rules without pushes and pulls, and the first push -/

/-- Computing further from a result, without another access, faults nowhere. -/
theorem bind_ok_error {α β : Type} {x : Except Fault α} {g : α → β} {f : Fault} :
    (x >>= fun a => .ok (g a)) = .error f ↔ x = .error f := by
  cases x with
  | ok a => simp
  | error e => simp

section
variable {s t : State} {f : Fault}

theorem NothingCommitted.after (h : Observed s t) (k : NothingCommitted t f) : NothingCommitted s f := by
  obtain ⟨⟨ha, hx, hy, hsp, hf⟩, hpc, hm⟩ := k
  exact ⟨⟨ha.trans h.a, hx.trans h.x, hy.trans h.y, hsp.trans h.sp, hf.trans h.flags⟩, hpc.trans h.pc, hm.trans h.mem⟩

theorem Observed.setSp (h : Observed s t) (v : Byte) : Observed (s.setSp v) (t.setSp v) := by
  unfold Observed at *
  rw [h]
  rfl

theorem Observed.setFlags (h : Observed s t) (g : Flags) : Observed (s.setFlags g) (t.setFlags g) := by
  unfold Observed at *
  rw [h]
  rfl

theorem read_error {o : Operand} {g : Byte × State → State}
    (h : (readOperand o s >>= fun b => .ok (g b)) = .error f) : ReadFault s f :=
  readOperand_error (bind_ok_error.mp h)

/-- A location that could be read can be written (R32). -/
theorem store_after_load {l : Loc} {b : Byte} (h : load l s = .ok (b, t)) (v : Byte) : ∃ w, store l v t = .ok w := by
  cases l with
  | mem addr => exact memWrite_after_read h (memRead_observed h).platform v
  | _ => exact ⟨_, rfl⟩

/-- The write of a read-modify-write never faults, so the fault is that of a read. -/
theorem opModify_error {value : Byte → Bool → Byte} {flags : Byte → Byte → Flags → Flags} {o : Operand}
    (h : opModify value flags o s = .error f) : ReadFault s f := by
  obtain h | ⟨⟨r, u⟩, hr, h⟩ := bind_error.mp h
  · exact resolve_error h
  obtain h | ⟨⟨b, v⟩, hb, h⟩ := bind_error.mp h
  · exact .after (resolve_observed hr) (load_error h)
  obtain ⟨w, hw⟩ := store_after_load hb (value b v.flags.c)
  cases hw.symm.trans (bind_ok_error.mp h)

theorem opJmp_error {m : MemOperand} (h : opJmp m s = .error f) : ReadFault s f :=
  effAddr_error (bind_ok_error.mp h)

theorem diagnosed_error {op : Byte} {o : Operand} (h : diagnosed op o s = .error f) : ReadFault s f :=
  resolve_error (bind_ok_error.mp h)

/-- A push that faults is its one write. -/
theorem push_error {v : Byte} (h : push v s = .error f) :
    FaultsAt f (stackAddr s.sp) .write ∧ NothingCommitted s f := by
  obtain ⟨-, rfl⟩ := memWrite_error (bind_ok_error.mp h)
  exact ⟨⟨_, rfl⟩, ⟨rfl, rfl, rfl, rfl, rfl⟩, rfl, rfl⟩

theorem push_next_error {v : Byte} {n : Nat} (h : (push v s >>= fun u => .ok (next n u)) = .error f) :
    NothingCommitted s f :=
  (push_error (bind_ok_error.mp h)).2

theorem withAddress_error {o : Operand} {g : MemOperand → Except Fault State} (h : withAddress o g s = .error f) :
    ∃ m, o = .memory m ∧ g m = .error f := by
  cases o with
  | memory m => exact ⟨m, rfl, h⟩
  | _ => cases h

/-- The classes of R172 that have changed nothing when a transaction faults. -/
theorem exec_fault_nothingCommitted {i : Instr} (h : exec i s = .fault f)
    (hi : i.mnemonic ∉ [.jsr, .brk, .pla, .plp, .rts, .rti]) : NothingCommitted s f := by
  rw [exec_eq_perform, finish_eq_fault] at h
  unfold perform at h
  generalize i.mnemonic = m at hi h
  cases m with
  | jsr | brk | pla | plp | rts | rti => simp at hi
  | adc | sbc | cmp | cpx | cpy | and | ora | eor | bit | lda | ldx | ldy => exact (read_error h).nothingCommitted
  | asl | lsr | rol | ror | inc | dec => exact (opModify_error h).nothingCommitted
  | sta | stx | sty =>
    obtain ⟨m, -, h⟩ := withAddress_error h
    exact opStore_error_nothingCommitted h
  | jmp =>
    obtain ⟨m, -, h⟩ := withAddress_error h
    exact (opJmp_error h).nothingCommitted
  | pha | php => exact push_next_error h
  | bcc | bcs | beq | bne | bmi | bpl | bvc | bvs => cases h
  | inx | iny | dex | dey | tax | tay | txa | tya | tsx | txs | nop | clc | sec | cli | sei | cld | sed | clv => cases h
  | jam | slo | nopUndoc | anc | rla | sre | alr | rra | arr | sax | xaa | ahx | tas | shy | shx | lax | las | dcp | axs
  | isc | sbcUndoc => exact (diagnosed_error h).nothingCommitted

/-! ### Pulls -/

/-- A pull increments S before its read. -/
theorem pull_error (h : pull s = .error f) : NothingCommitted (s.setSp (s.sp + 1)) f :=
  (memRead_readFault h).nothingCommitted

/-- The first or the second pull of a word faults. -/
theorem pullWord_error (h : pullWord s = .error f) :
    NothingCommitted (s.setSp (s.sp + 1)) f ∨ NothingCommitted (s.setSp (s.sp + 2)) f := by
  obtain h | ⟨⟨lo, u⟩, hu, h⟩ := bind_error.mp h
  · exact .inl (pull_error h)
  obtain ⟨-, hsp, -⟩ := pull_sp hu
  have ho : Observed (s.setSp (s.sp + 2)) (u.setSp (s.sp + 2)) := (pull_observed hu).setSp _
  have hn := pull_error (bind_ok_error.mp h)
  rw [hsp] at hn
  exact .inr (.after ho hn)

/-- The first pull of a return from trap faults; or it is done, the flags are restored, and a later one faults. -/
theorem returnFromTrap_error (h : returnFromTrap s = .error f) :
    NothingCommitted (s.setSp (s.sp + 1)) f ∨ ∃ p u, pull s = .ok (p, u) ∧
      (NothingCommitted ((s.setSp (s.sp + 2)).setFlags (Flags.ofByte p)) f ∨
        NothingCommitted ((s.setSp (s.sp + 3)).setFlags (Flags.ofByte p)) f) := by
  obtain h | ⟨⟨p, u⟩, hu, h⟩ := bind_error.mp h
  · exact .inl (pull_error h)
  obtain ⟨-, hsp2, hsp3⟩ := pull_sp hu
  have ho (v : Byte) : Observed ((s.setSp v).setFlags (Flags.ofByte p)) ((u.setSp v).setFlags (Flags.ofByte p)) :=
    ((pull_observed hu).setSp v).setFlags _
  have hn := pullWord_error (bind_ok_error.mp h)
  rw [State.setFlags_sp, hsp2, hsp3] at hn
  exact .inr ⟨p, u, hu, hn.imp (.after (ho _)) (.after (ho _))⟩

end

/-! ### Pushes -/

section
variable {s u w : State} {l : List (Addr × Byte)}

theorem stores_concat {addr : Addr} {v : Byte} (hl : stores l s = .ok u) (hw : memWrite addr v u = .ok w) :
    stores (l ++ [(addr, v)]) s = .ok w := by
  induction l generalizing s with
  | nil =>
    cases hl
    exact stores_cons_ok.mpr ⟨w, hw, rfl⟩
  | cons p l ih =>
    obtain ⟨t, ht, hl⟩ := stores_cons_ok.mp hl
    exact stores_cons_ok.mpr ⟨t, ht, ih hl⟩

theorem stores_inside (l : List (Addr × Byte)) (s : State) : Inside s id (stores l s) := by
  induction l generalizing s with
  | nil => exact .ok (.refl s)
  | cons p l ih => exact (memWrite_inside p.1 p.2 s).bind fun t => ih t

theorem stores_registers (h : stores l s = .ok u) : SameRegisters s u := by
  induction l generalizing s with
  | nil =>
    cases h
    exact ⟨rfl, rfl, rfl, rfl, rfl⟩
  | cons p l ih =>
    obtain ⟨t, ht, h⟩ := stores_cons_ok.mp h
    obtain ⟨ha, hx, hy, hsp, hf⟩ := memWrite_registers ht
    obtain ⟨ka, kx, ky, ksp, kf⟩ := ih h
    exact ⟨ka.trans ha, kx.trans hx, ky.trans hy, ksp.trans hsp, kf.trans hf⟩

/-- A write does not look at S and the flags. -/
theorem memWrite_of_setSp_setFlags {addr : Addr} {v sp : Byte} {flags : Flags}
    (h : memWrite addr v ((u.setSp sp).setFlags flags) = .ok w) :
    ∃ w', memWrite addr v u = .ok w' ∧ w = (w'.setSp sp).setFlags flags := by
  obtain ⟨-, ⟨n, hn, rfl⟩ | ⟨d, off, hd, rfl⟩⟩ := memWrite_ok h
  · exact ⟨_, memWrite_of_cell v hn, rfl⟩
  · exact ⟨_, memWrite_of_device v hd, rfl⟩

end

/-- `t` is the state to which writing the bytes `done` in order leads from `s`, but for S and the flags. -/
def Pushed (s : State) (sp : Byte) (flags : Flags) (done : List (Addr × Byte)) (t : State) : Prop :=
  ∃ u, stores done s = .ok u ∧ t = (u.setSp sp).setFlags flags

/-- What a step that began in `s` leaves when it is cut short after it stored the bytes `done`: S and the flags as
given, no other register changed (R172). -/
def LeavesPushed (s : State) (sp : Byte) (flags : Flags) (done : List (Addr × Byte)) (f : Fault) : Prop :=
  SameRegisters ((s.setSp sp).setFlags flags) f.left ∧ LeavesStored s f done

/-- The transactions and device accesses before a fault are among those it leaves. -/
theorem FaultFrom.grows {s : State} {f : Fault} (h : FaultFrom s f) :
    s.trace <+: f.left.trace ∧ s.deviceLog <+: f.left.deviceLog := by
  obtain ⟨u, addr, hu, -, hf⟩ := h
  obtain ⟨l, hl⟩ := hu.trace
  obtain ⟨d, hd⟩ := hu.deviceLog
  obtain rfl | ⟨v, rfl⟩ := hf
  · exact ⟨by simp [Fault.left, raiseRead, hl], by simp [Fault.left, raiseRead, hd]⟩
  · exact ⟨by simp [Fault.left, raiseWrite, hl], by simp [Fault.left, raiseWrite, hd]⟩

section
variable {s t w : State} {sp : Byte} {flags : Flags} {done : List (Addr × Byte)} {f : Fault}

theorem Pushed.refl (s : State) : Pushed s s.sp s.flags [] s := ⟨s, rfl, rfl⟩

theorem Pushed.setFlags (h : Pushed s sp flags done t) (flags' : Flags) :
    Pushed s sp flags' done (t.setFlags flags') := by
  obtain ⟨u, hu, rfl⟩ := h
  exact ⟨u, hu, rfl⟩

theorem Pushed.then_push {v : Byte} (h : Pushed s sp flags done t) (hw : push v t = .ok w) :
    Pushed s (sp - 1) flags (done ++ [(stackAddr sp, v)]) w := by
  obtain ⟨u, hu, rfl⟩ := h
  obtain ⟨x, hx, rfl⟩ := push_ok hw
  obtain ⟨x', hx', rfl⟩ := memWrite_of_setSp_setFlags hx
  exact ⟨x', stores_concat hu hx', rfl⟩

/-- A fault after pushes leaves what they stored, where the faulting operation itself committed nothing. -/
theorem Pushed.leaves (h : Pushed s sp flags done t) (hi : FaultFrom t f) (hn : NothingCommitted t f) :
    LeavesPushed s sp flags done f := by
  obtain ⟨u, hu, rfl⟩ := h
  obtain ⟨⟨ha, hx, hy, hsp, hf⟩, hpc, hm⟩ := hn
  obtain ⟨ua, ux, uy, -, -⟩ := stores_registers hu
  obtain ⟨-, hp⟩ := hi.keeps
  obtain ⟨htrace, hlog⟩ := hi.grows
  have pu := (stores_inside done s).1 u hu
  exact ⟨⟨ha.trans ua, hx.trans ux, hy.trans uy, hsp, hf⟩,
    .of_stores hu (hpc.trans pu.pc) (hp.trans pu.platform) hm htrace hlog⟩

theorem Pushed.fault_of_push {v : Byte} (h : Pushed s sp flags done t) (hf : push v t = .error f) :
    FaultsAt f (stackAddr sp) .write ∧ LeavesPushed s sp flags done f := by
  obtain ⟨hat, hn⟩ := push_error hf
  have hl := h.leaves ((push_inside v t).2 f hf) hn
  obtain ⟨u, -, rfl⟩ := h
  exact ⟨hat, hl⟩

/-- Reading a vector faults at one of its two addresses, before anything is committed. -/
theorem readVector_error {vector : Addr} (h : readVector vector s = .error f) :
    (FaultsAt f vector .read ∨ FaultsAt f (vector + 1) .read) ∧ ReadFault s f := by
  obtain h | ⟨⟨lo, u⟩, hu, h⟩ := bind_error.mp h
  · exact ⟨.inl ⟨_, (memRead_error h).2⟩, memRead_readFault h⟩
  have hhi := bind_ok_error.mp h
  exact ⟨.inr ⟨_, (memRead_error hhi).2⟩, .after (memRead_observed hu) (memRead_readFault hhi)⟩

theorem pushWord_pushed {v : Addr} (h : pushWord v s = .ok t) :
    Pushed s (s.sp - 2) s.flags [(stackAddr s.sp, hiByte v), (stackAddr (s.sp - 1), loByte v)] t := by
  obtain ⟨u, hu, ht⟩ := bind_ok.mp h
  have hp := ((Pushed.refl s).then_push hu).then_push ht
  rw [BitVec.sub_sub] at hp
  exact hp

/-- The first or the second push of a word faults. -/
theorem pushWord_error {v : Addr} (h : pushWord v s = .error f) :
    FaultsAt f (stackAddr s.sp) .write ∧ LeavesPushed s s.sp s.flags [] f ∨
      FaultsAt f (stackAddr (s.sp - 1)) .write ∧
        LeavesPushed s (s.sp - 1) s.flags [(stackAddr s.sp, hiByte v)] f := by
  obtain h | ⟨t, ht, h⟩ := bind_error.mp h
  · exact .inl ((Pushed.refl s).fault_of_push h)
  · exact .inr (((Pushed.refl s).then_push ht).fault_of_push h)

/-- One of the three pushes of a trap faults; or they are done, I is set, and a read of the vector faults. -/
theorem takeTrap_error {ret vector : Addr} {b4 : Bool} (h : takeTrap ret vector b4 s = .error f) :
    (FaultsAt f (stackAddr s.sp) .write ∧ LeavesPushed s s.sp s.flags [] f ∨
      FaultsAt f (stackAddr (s.sp - 1)) .write ∧
        LeavesPushed s (s.sp - 1) s.flags [(stackAddr s.sp, hiByte ret)] f) ∨
    FaultsAt f (stackAddr (s.sp - 2)) .write ∧
      LeavesPushed s (s.sp - 2) s.flags [(stackAddr s.sp, hiByte ret), (stackAddr (s.sp - 1), loByte ret)] f ∨
    (FaultsAt f vector .read ∨ FaultsAt f (vector + 1) .read) ∧
      LeavesPushed s (s.sp - 3) { s.flags with i := true } [(stackAddr s.sp, hiByte ret),
        (stackAddr (s.sp - 1), loByte ret), (stackAddr (s.sp - 2), s.flags.pByte b4)] f := by
  obtain h | ⟨t, ht, h⟩ := bind_error.mp h
  · exact .inl (pushWord_error h)
  have hword := pushWord_pushed ht
  obtain ⟨-, hflags⟩ := pushWord_sp_flags ht
  rw [hflags] at h
  obtain h | ⟨u, hu, h⟩ := bind_error.mp h
  · exact .inr (.inl (hword.fault_of_push h))
  obtain ⟨-, -, -, -, huflags⟩ := push_registers hu
  rw [huflags, hflags] at h
  have hpushed := (hword.then_push hu).setFlags { s.flags with i := true }
  rw [BitVec.sub_sub] at hpushed
  have hv := bind_ok_error.mp h
  obtain ⟨hat, hr⟩ := readVector_error hv
  exact .inr (.inr ⟨hat, hpushed.leaves ((readVector_inside vector _).2 f hv) hr.nothingCommitted⟩)

end

/-! ### The classes of R172 that push or pull -/

/-- JSR has the one mode Absolute (R140). -/
theorem jsr_eq {i : Instr} (hi : i.mnemonic = .jsr) : ∃ addr, i = .jsrAbs addr := by
  cases i with
  | jsrAbs addr => exact ⟨addr, rfl⟩
  | _ => cases hi

section
variable {i : Instr} {s : State} {f : Fault} (h : exec i s = .fault f)
include h

theorem exec_jsr_fault (hi : i.mnemonic = .jsr) : pushWord (s.pc + 2) s = .error f := by
  obtain ⟨addr, rfl⟩ := jsr_eq hi
  have hexec : exec (.jsrAbs addr) s = finish (pushWord (s.pc + 2) s >>= fun w => .ok (w.setPc addr)) := rfl
  rw [hexec, finish_eq_fault] at h
  exact bind_ok_error.mp h

theorem exec_brk_fault (hi : i.mnemonic = .brk) : takeTrap (s.pc + 2) Config.brkVector true s = .error f := by
  rwa [exec_of_brk hi, finish_eq_fault] at h

theorem exec_pull_fault (hi : i.mnemonic ∈ [.pla, .plp]) : NothingCommitted (s.setSp (s.sp + 1)) f := by
  rw [exec_eq_perform, finish_eq_fault] at h
  unfold perform at h
  generalize i.mnemonic = m at hi h
  cases m with
  | pla | plp => exact pull_error (bind_ok_error.mp h)
  | _ => simp at hi

theorem exec_rts_fault (hi : i.mnemonic = .rts) :
    NothingCommitted (s.setSp (s.sp + 1)) f ∨ NothingCommitted (s.setSp (s.sp + 2)) f := by
  rw [exec_eq_perform, finish_eq_fault, perform, hi] at h
  exact pullWord_error (bind_ok_error.mp h)

theorem exec_rti_fault (hi : i.mnemonic = .rti) : returnFromTrap s = .error f := by
  rwa [exec_eq_perform, finish_eq_fault, perform, hi] at h

/-- Of the registers, a fault leaves at most S and the flags changed. -/
theorem exec_fault_registers : ∃ sp flags, SameRegisters ((s.setSp sp).setFlags flags) f.left := by
  cases hi : i.mnemonic with
  | jsr => obtain ⟨-, hr, -⟩ | ⟨-, hr, -⟩ := pushWord_error (exec_jsr_fault h hi) <;> exact ⟨_, _, hr⟩
  | brk =>
    obtain (⟨-, hr, -⟩ | ⟨-, hr, -⟩) | ⟨-, hr, -⟩ | ⟨-, hr, -⟩ := takeTrap_error (exec_brk_fault h hi) <;>
      exact ⟨_, _, hr⟩
  | pla | plp => exact ⟨s.sp + 1, s.flags, (exec_pull_fault h (by simp [hi])).1⟩
  | rts =>
    obtain hn | hn := exec_rts_fault h hi
    · exact ⟨s.sp + 1, s.flags, hn.1⟩
    · exact ⟨s.sp + 2, s.flags, hn.1⟩
  | rti =>
    obtain hn | ⟨p, u, -, hn | hn⟩ := returnFromTrap_error (exec_rti_fault h hi)
    · exact ⟨s.sp + 1, s.flags, hn.1⟩
    · exact ⟨s.sp + 2, Flags.ofByte p, hn.1⟩
    · exact ⟨s.sp + 3, Flags.ofByte p, hn.1⟩
  | _ => exact ⟨s.sp, s.flags, (exec_fault_nothingCommitted h (by simp [hi])).1⟩

end

/-- Settles O50: the classes of R172, one case each, and within a class one case per transaction that can fault. -/
theorem faultsCommitWhatCameBefore : Obligations.FaultsCommitWhatCameBefore := by
  intro i s f h
  obtain ⟨sp, flags, ha, hx, hy, -, -⟩ := exec_fault_registers h
  refine ⟨ha, hx, hy, exec_fault_nothingCommitted h, fun hi => ?jsr, fun hi => ?brk, fun hi => ?pull,
    fun hi => ?rts, fun hi => ?rti⟩
  case jsr =>
    obtain ⟨hat, ⟨-, -, -, hsp, hf⟩, hl⟩ | ⟨hat, ⟨-, -, -, hsp, hf⟩, hl⟩ := pushWord_error (exec_jsr_fault h hi)
    · exact ⟨hf, .inl ⟨hat, hsp, hl⟩⟩
    · exact ⟨hf, .inr ⟨hat, hsp, hl⟩⟩
  case brk =>
    obtain (⟨hat, ⟨-, -, -, hsp, hf⟩, hl⟩ | ⟨hat, ⟨-, -, -, hsp, hf⟩, hl⟩) | ⟨hat, ⟨-, -, -, hsp, hf⟩, hl⟩ |
      ⟨hat, ⟨-, -, -, hsp, hf⟩, hl⟩ := takeTrap_error (exec_brk_fault h hi)
    · exact .inl ⟨hf, .inl ⟨hat, hsp, hl⟩⟩
    · exact .inl ⟨hf, .inr (.inl ⟨hat, hsp, hl⟩)⟩
    · exact .inl ⟨hf, .inr (.inr ⟨hat, hsp, hl⟩)⟩
    · exact .inr ⟨hf, hsp, hat, hl⟩
  case pull =>
    obtain ⟨⟨-, -, -, hsp, hf⟩, -, hm⟩ := exec_pull_fault h hi
    exact ⟨hsp, hf, hm⟩
  case rts =>
    obtain ⟨⟨-, -, -, hsp, hf⟩, -, hm⟩ | ⟨⟨-, -, -, hsp, hf⟩, -, hm⟩ := exec_rts_fault h hi
    · exact ⟨.inl hsp, hf, hm⟩
    · exact ⟨.inr hsp, hf, hm⟩
  case rti =>
    obtain ⟨⟨-, -, -, hsp, hf⟩, -, hm⟩ |
      ⟨p, u, hu, ⟨⟨-, -, -, hsp, hf⟩, -, hm⟩ | ⟨⟨-, -, -, hsp, hf⟩, -, hm⟩⟩ :=
      returnFromTrap_error (exec_rti_fault h hi)
    · exact ⟨hm, .inl ⟨hsp, hf⟩⟩
    · exact ⟨hm, .inr ⟨.inl hsp, p, u, hu, hf⟩⟩
    · exact ⟨hm, .inr ⟨.inr hsp, p, u, hu, hf⟩⟩

end Sys2Proof.Machine
end

section
/-! The reset input (70_reset_and_hazards.md R190; O59): it is a read of the reset vector, after the registers are set, so
what it leaves is what that read leaves, with PC written. -/

namespace Sys2Proof.Machine

section
variable {s t : State}

/-! ### The registers at reset -/

/-- The byte shown for P is that of a lone I, with bit 5 set (R190, 10_state.md R17). -/
theorem inspectP_resetRegisters (s : State) : inspectP (resetRegisters s) = 0x24 := by
  simp [inspectP, resetRegisters, Flags.pByte]

theorem resetRegisters_values (h : SameRegisters (resetRegisters s) t) :
    t.a = 0 ∧ t.x = 0 ∧ t.y = 0 ∧ t.sp = 0xFD ∧ inspectP t = 0x24 := by
  obtain ⟨ha, hx, hy, hsp, hf⟩ := h
  exact ⟨ha, hx, hy, hsp, (congrArg (Flags.pByte · false) hf).trans (inspectP_resetRegisters s)⟩

/-! ### A vector in storage -/

theorem IsStorage.inspectCell {addr : Addr} (h : IsStorage s.platform addr) : ∃ b, Machine.inspectCell addr s = some b :=
  h.imp' _ fun _ hn => inspectCell_of_cell hn

/-- Where both addresses show a byte, reading a vector issues two reads and tells no handler. -/
theorem readVector_of_inspectCell {vector : Addr} {lo hi : Byte} (hlo : inspectCell vector s = some lo)
    (hhi : inspectCell (vector + 1) s = some hi) :
    readVector vector s = .ok (word hi lo, (s.log (.read vector lo)).log (.read (vector + 1) hi)) :=
  bind_ok.mpr ⟨_, memRead_of_inspectCell hlo, bind_ok.mpr ⟨_, memRead_of_inspectCell (s := s.log _) hhi, rfl⟩⟩

/-! ### The reset input, by the outcome of the vector read -/

theorem resetInput_of_readVector {v : Addr}
    (h : readVector Config.resetVector (resetRegisters s.beginStep) = .ok (v, t)) : resetInput s = .ok (t.setPc v) := by
  rw [resetInput, h]

/-- A reset faults with its vector read, and then writes PC alone. -/
theorem resetInput_error {f : Fault} (h : resetInput s = .error f) : ∃ g pc,
    readVector Config.resetVector (resetRegisters s.beginStep) = .error g ∧ f.left = g.left.setPc pc := by
  unfold resetInput at h
  split at h
  · cases h
  · next hg =>
    cases h
    exact ⟨_, _, hg, rfl⟩

end

/-- Settles O59: the vector read only reads, from a state whose registers are set; from storage it tells no handler. -/
theorem resetLoadsRegistersAndVector : Obligations.ResetLoadsRegistersAndVector := by
  refine fun s => ⟨fun hlo hhi => ?completes, fun f hf => ?faults, fun hm hp => ?fresh⟩
  case completes =>
    obtain ⟨⟨v, t⟩, ht⟩ := (readVector_completes (s := resetRegisters s.beginStep)).mpr ⟨hlo, hhi⟩
    obtain ⟨lo, hi, hv, htrace, hl, hh⟩ := readVector_reads ht
    have ho := readVector_observed ht
    obtain ⟨seen, hseen⟩ := ((readVector_inside _ _).1 _ ht).deviceLog
    obtain ⟨ha, hx, hy, hsp, hP⟩ := resetRegisters_values ⟨ho.a, ho.x, ho.y, ho.sp, ho.flags⟩
    refine ⟨_, lo, hi, resetInput_of_readVector ht, ha, hx, hy, hsp, hP, hv, ho.mem, ho.platform, ho.record, htrace,
      ⟨seen, hseen.symm⟩, fun slo shi => ?_, hl, hh⟩
    obtain ⟨blo, hblo⟩ := slo.inspectCell
    obtain ⟨bhi, hbhi⟩ := shi.inspectCell
    cases ht.symm.trans (readVector_of_inspectCell (s := resetRegisters s.beginStep) hblo hbhi)
    rfl
  case faults =>
    obtain ⟨g, pc, hg, hleft⟩ := resetInput_error hf
    obtain ⟨hr, -, hm⟩ := (readVector_error hg).2.nothingCommitted
    obtain ⟨-, hseen⟩ := ((readVector_inside _ _).2 g hg).grows
    obtain ⟨ha, hx, hy, hsp, hP⟩ := resetRegisters_values hr
    rw [hleft]
    exact ⟨ha, hx, hy, hsp, hP, hm, hseen⟩
  case fresh =>
    have shows (addr : Addr) (ha : 0x4000 ≤ addr.toNat) : inspectCell addr s = some Config.launchByte := by
      rw [inspectCell_of_cell (hp ▸ translateAddr_default_above ha), hm]
      rfl
    rw [resetInput_of_readVector (readVector_of_inspectCell (s := resetRegisters s.beginStep)
      (shows Config.resetVector (by decide)) (shows (Config.resetVector + 1) (by decide)))]
    cases s
    cases hm
    cases hp
    rfl

end Sys2Proof.Machine
end

section
/-! The informative cycle count (70_reset_and_hazards.md R198; O60): an instruction that completes has resolved its operand,
and a branch is taken to the target whose page is counted. -/

namespace Sys2Proof.Machine

/-! ### Completed instructions have resolved their operand -/

/-- The resolver answers for the operand. -/
def Resolves (o : Operand) (s : State) : Prop := ∃ r u, resolve o s = .ok (r, u)

section
variable {s t : State} {o : Operand}

theorem Resolves.of_effAddr {m : MemOperand} {e : EffAddr} {u : State} (h : effAddr m s = .ok (e, u)) :
    Resolves (.memory m) s :=
  ⟨_, _, bind_ok.mpr ⟨_, h, rfl⟩⟩

theorem read_resolves {g : Byte × State → State} (h : (readOperand o s >>= fun b => .ok (g b)) = .ok t) :
    Resolves o s := by
  obtain ⟨m, u, hread, -, -⟩ := read_ok h
  obtain ⟨⟨r, w⟩, hr, -⟩ := bind_ok.mp hread
  exact ⟨r, w, hr⟩

theorem opModify_resolves {value : Byte → Bool → Byte} {flags : Byte → Byte → Flags → Flags}
    (h : opModify value flags o s = .ok t) : Resolves o s := by
  obtain ⟨r, u, -, -, -, hr, -⟩ := opModify_ok h
  exact ⟨r, u, hr⟩

theorem opStore_resolves {reg : State → Byte} {m : MemOperand} (h : opStore reg m s = .ok t) :
    Resolves (.memory m) s := by
  obtain ⟨e, u, -, he, -⟩ := opStore_ok h
  exact .of_effAddr he

theorem opJmp_resolves {m : MemOperand} (h : opJmp m s = .ok t) : Resolves (.memory m) s := by
  obtain ⟨⟨e, u⟩, he, -⟩ := bind_ok.mp h
  exact .of_effAddr he

theorem opJsr_resolves {m : MemOperand} (h : opJsr m s = .ok t) : Resolves (.memory m) s := by
  obtain ⟨⟨e, u⟩, he, -⟩ := bind_ok.mp h
  exact .of_effAddr he

theorem diagnosed_resolves {op : Byte} (h : diagnosed op o s = .ok t) : Resolves o s := by
  obtain ⟨r, u, hr, -⟩ := diagnosed_ok h
  exact ⟨r, u, hr⟩

/-- The operands other than memory cells are resolved without an access (R73 to R76). -/
theorem withAddress_resolves {g : MemOperand → Except Fault State}
    (hg : ∀ m, g m = .ok t → Resolves (.memory m) s) (h : withAddress o g s = .ok t) : Resolves o s := by
  cases o with
  | memory m => exact hg m h
  | _ => exact ⟨_, _, rfl⟩

end

section
variable {i : Instr} {s t : State}

theorem perform_resolves (h : perform i s = .ok t) : Resolves i.operand s := by
  have implicit := implicit_operand i
  have relative := relative_operand i s.flags
  unfold perform at h
  generalize i.mnemonic = m at *
  cases m with
  | adc | sbc | cmp | cpx | cpy | and | ora | eor | bit | lda | ldx | ldy => exact read_resolves h
  | asl | lsr | rol | ror | inc | dec => exact opModify_resolves h
  | sta | stx | sty => exact withAddress_resolves (fun _ => opStore_resolves) h
  | jmp => exact withAddress_resolves (fun _ => opJmp_resolves) h
  | jsr => exact withAddress_resolves (fun _ => opJsr_resolves) h
  | rts | brk | rti | pha | php | pla | plp | inx | iny | dex | dey | tax | tay | txa | tya | tsx | txs | nop | clc | sec
  | cli | sei | cld | sed | clv =>
    rw [implicit (by simp)]
    exact ⟨_, _, rfl⟩
  | bcc | bcs | beq | bne | bmi | bpl | bvc | bvs =>
    obtain ⟨off, hoff⟩ := relative rfl
    rw [hoff]
    exact ⟨_, _, rfl⟩
  | jam | slo | nopUndoc | anc | rla | sre | alr | rra | arr | sax | xaa | ahx | tas | shy | shx | lax | las | dcp | axs
  | isc | sbcUndoc => exact diagnosed_resolves h

theorem exec_resolves (h : exec i s = .next t) : Resolves i.operand s :=
  perform_resolves (finish_eq_next.mp (exec_eq_perform i s ▸ h))

/-! ### The cycles of a branch -/

/-- A taken branch goes to its target and changes nothing else (R130). -/
theorem exec_of_branchTaken {off : Byte} (hb : branchTaken i.mnemonic s.flags = some true)
    (ho : i.operand = .relative off) : exec i s = .next (s.setPc (branchTarget off s)) := by
  rw [exec_eq_perform, perform]
  generalize i.mnemonic = m at hb ⊢
  cases m with
  | bcc | bcs | beq | bne | bmi | bpl | bvc | bvs =>
    simp only [hb, ho]
    rfl
  | _ => cases hb

/-- The page counted for a taken branch is that of the PC it leaves. -/
theorem branchCycles_of_exec (h : exec i s = .next t) : branchCycles i s =
    if branchTaken i.mnemonic s.flags = some true then (if hiByte t.pc = hiByte s.pc then 1 else 2) else 0 := by
  by_cases hb : branchTaken i.mnemonic s.flags = some true
  · obtain ⟨off, ho⟩ := relative_operand i s.flags (by rw [hb]; rfl)
    have hpc : t.pc = branchTarget off s := by
      cases h.symm.trans (exec_of_branchTaken hb ho)
      rfl
    simp [branchCycles, hb, ho, hpc]
  · unfold branchCycles
    split
    · next hb' _ => exact absurd hb' hb
    · rw [if_neg hb]

end

/-- Settles O60: the three terms of the count, the operand being resolved and the branch where PC says. -/
theorem cycleCountFormula : Obligations.CycleCountFormula := by
  intro i s t h
  obtain ⟨r, u, hr⟩ := exec_resolves h
  exact ⟨r, u, hr, by simp only [cycles, h, hr, branchCycles_of_exec h, pageCycles]⟩

end Sys2Proof.Machine
end
